-- ==== Sys2Proof/Word.lean ====
section
/-! DEFINITION. The words on the ports of the block and their widths (spec 00_scope.md R6, 10_state.md R16,
30_encoding.md R35 to R40). Every word is unsigned (00_scope.md section 3). -/

namespace Sys2Proof

/-- One byte of a request of the caller. -/
abbrev Byte : Type := BitVec 8

/-- The character operand word: `CHAR_W` = 8 bits, unsigned (R35, D2). -/
abbrev CharWord : Type := BitVec 8

/-- A cell code: `CELL_W` = 6 bits (R37). Bit 5 is the first dot position, bit 0 the last (R27). -/
abbrev CellCode : Type := BitVec 6

/-- A sub-pattern, one half of a cell code: `SUB_W` = 3 bits (R38, R41). -/
abbrev SubPattern : Type := BitVec 3

/-- The index operand word of PWLOOKUP: `IDX_W` = 8 bits, unsigned (R38, D4). -/
abbrev IdxWord : Type := BitVec 8

/-- A pulse width in microseconds: `PW_W` = 16 bits, unsigned (R39, D5). -/
abbrev PulseWord : Type := BitVec 16

/-- A duty value: `DUTY_W` = 18 bits, unsigned (R40, D7). -/
abbrev DutyWord : Type := BitVec 18

end Sys2Proof
end

