-- ==== Sys2Proof/Syntax.lean ====
section
/-! DEFINITION. The instructions: one constructor per row of spec/opcode_table.json, and the requests by which
the caller presents them (spec 30_encoding.md R34, R42, R43; 00_scope.md R9). -/

namespace Sys2Proof

/-- One instruction: a row of the opcode table with its operand. A row of the formats decode/char8 and decode/idx8
is one arm of ENCODE or PWLOOKUP; its operand is what the row leaves free of the operand word. In a letter row
`f` is the case bit, bit 5 of the code: false is upper case, true lower case (R42). -/
inductive Instr where
  /-- ENCODE: the cell code of the character `c` (R46). -/
  | encode (c : CharWord)
  /-- PWLOOKUP: the pulse width of the index `i` (R58). -/
  | pwlookup (i : IdxWord)
  /-- DUTY: the duty value of the pulse width `p` (R64). -/
  | duty (p : PulseWord)
  /-- SPLIT, the caller's helper: the two halves of the cell code `v` (R74). -/
  | split (v : CellCode)
  /-- The letter row of index 0, codes 0x41 and 0x61 (R42, R48). -/
  | encLetterA (f : Bool)
  /-- The letter row of index 1, codes 0x42 and 0x62 (R42, R48). -/
  | encLetterB (f : Bool)
  /-- The letter row of index 2, codes 0x43 and 0x63 (R42, R48). -/
  | encLetterC (f : Bool)
  /-- The letter row of index 3, codes 0x44 and 0x64 (R42, R48). -/
  | encLetterD (f : Bool)
  /-- The letter row of index 4, codes 0x45 and 0x65 (R42, R48). -/
  | encLetterE (f : Bool)
  /-- The letter row of index 5, codes 0x46 and 0x66 (R42, R48). -/
  | encLetterF (f : Bool)
  /-- The letter row of index 6, codes 0x47 and 0x67 (R42, R48). -/
  | encLetterG (f : Bool)
  /-- The letter row of index 7, codes 0x48 and 0x68 (R42, R48). -/
  | encLetterH (f : Bool)
  /-- The letter row of index 8, codes 0x49 and 0x69 (R42, R48). -/
  | encLetterI (f : Bool)
  /-- The letter row of index 9, codes 0x4A and 0x6A (R42, R48). -/
  | encLetterJ (f : Bool)
  /-- The letter row of index 10, codes 0x4B and 0x6B (R42, R48). -/
  | encLetterK (f : Bool)
  /-- The letter row of index 11, codes 0x4C and 0x6C (R42, R48). -/
  | encLetterL (f : Bool)
  /-- The letter row of index 12, codes 0x4D and 0x6D (R42, R48). -/
  | encLetterM (f : Bool)
  /-- The letter row of index 13, codes 0x4E and 0x6E (R42, R48). -/
  | encLetterN (f : Bool)
  /-- The letter row of index 14, codes 0x4F and 0x6F (R42, R48). -/
  | encLetterO (f : Bool)
  /-- The letter row of index 15, codes 0x50 and 0x70 (R42, R48). -/
  | encLetterP (f : Bool)
  /-- The letter row of index 16, codes 0x51 and 0x71 (R42, R48). -/
  | encLetterQ (f : Bool)
  /-- The letter row of index 17, codes 0x52 and 0x72 (R42, R48). -/
  | encLetterR (f : Bool)
  /-- The letter row of index 18, codes 0x53 and 0x73 (R42, R48). -/
  | encLetterS (f : Bool)
  /-- The letter row of index 19, codes 0x54 and 0x74 (R42, R48). -/
  | encLetterT (f : Bool)
  /-- The letter row of index 20, codes 0x55 and 0x75 (R42, R48). -/
  | encLetterU (f : Bool)
  /-- The letter row of index 21, codes 0x56 and 0x76 (R42, R48). -/
  | encLetterV (f : Bool)
  /-- The letter row of index 22, codes 0x57 and 0x77 (R42, R48). -/
  | encLetterW (f : Bool)
  /-- The letter row of index 23, codes 0x58 and 0x78 (R42, R48). -/
  | encLetterX (f : Bool)
  /-- The letter row of index 24, codes 0x59 and 0x79 (R42, R48). -/
  | encLetterY (f : Bool)
  /-- The letter row of index 25, codes 0x5A and 0x7A (R42, R48). -/
  | encLetterZ (f : Bool)
  /-- The digit row of code 0x30 (R42, R49). -/
  | encDigit0
  /-- The digit row of code 0x31 (R42, R49). -/
  | encDigit1
  /-- The digit row of code 0x32 (R42, R49). -/
  | encDigit2
  /-- The digit row of code 0x33 (R42, R49). -/
  | encDigit3
  /-- The digit row of code 0x34 (R42, R49). -/
  | encDigit4
  /-- The digit row of code 0x35 (R42, R49). -/
  | encDigit5
  /-- The digit row of code 0x36 (R42, R49). -/
  | encDigit6
  /-- The digit row of code 0x37 (R42, R49). -/
  | encDigit7
  /-- The digit row of code 0x38 (R42, R49). -/
  | encDigit8
  /-- The digit row of code 0x39 (R42, R49). -/
  | encDigit9
  /-- The symbol row of code 0x20 (R42, R50). -/
  | encSymSpace
  /-- The symbol row of code 0x2E (R42, R50). -/
  | encSymPeriod
  /-- The symbol row of code 0x2C (R42, R50). -/
  | encSymComma
  /-- The symbol row of code 0x3F (R42, R50). -/
  | encSymQuestion
  /-- The symbol row of code 0x21 (R42, R50). -/
  | encSymExclam
  /-- The fallback row of ENCODE: a code `c` that no other row matches (R42, R51). -/
  | encFallback (c : CharWord)
  /-- The in-range row of PWLOOKUP for the index 0 (R43, R59). -/
  | pwl0
  /-- The in-range row of PWLOOKUP for the index 1 (R43, R59). -/
  | pwl1
  /-- The in-range row of PWLOOKUP for the index 2 (R43, R59). -/
  | pwl2
  /-- The in-range row of PWLOOKUP for the index 3 (R43, R59). -/
  | pwl3
  /-- The in-range row of PWLOOKUP for the index 4 (R43, R59). -/
  | pwl4
  /-- The in-range row of PWLOOKUP for the index 5 (R43, R59). -/
  | pwl5
  /-- The in-range row of PWLOOKUP for the index 6 (R43, R59). -/
  | pwl6
  /-- The in-range row of PWLOOKUP for the index 7 (R43, R59). -/
  | pwl7
  /-- The out-of-range row of PWLOOKUP: an index `i` above 7 (R43, R60). -/
  | pwlFallback (i : IdxWord)
  deriving DecidableEq, Repr

/-- The formats of the opcode table. The block has no opcode field: the port that an operand word is presented on
says which operation it is for (R34, D1). The two decode formats are the ports char_in and idx_in again, read row
by row (R42, R43). -/
inductive Format where
  /-- operation/char8: the port char_in, read as ENCODE. -/
  | operationChar8
  /-- operation/idx8: the port idx_in, read as PWLOOKUP. -/
  | operationIdx8
  /-- operation/pw16: the port pw_in, read as DUTY. -/
  | operationPw16
  /-- helper/cell6: a cell code the caller splits, read as SPLIT. -/
  | helperCell6
  /-- decode/char8: the port char_in, read as the row of R42 that matches. -/
  | decodeChar8
  /-- decode/idx8: the port idx_in, read as the row of R43 that matches. -/
  | decodeIdx8
  deriving DecidableEq, Repr

/-- How many bytes carry the operand word of a format, from the widths of R34. A cell code of 6 bits is carried
in one byte whose upper bits are zero (R16, D17). -/
def Format.byteCount : Format → Nat
  | .operationChar8 => 1
  | .operationIdx8 => 1
  | .operationPw16 => 2
  | .helperCell6 => 1
  | .decodeChar8 => 1
  | .decodeIdx8 => 1

/-- One operation the caller issues: the format and the bytes of the operand word, least significant byte first
(DESIGN CHOICE, notes/assumptions/8.md). -/
structure Request where
  format : Format
  bytes : List Byte
  deriving DecidableEq, Repr

/-- Why the bytes of a request are no operand word of its format. -/
inductive Reject where
  /-- The number of bytes is not the format's. -/
  | wrongByteCount (given : Nat)
  /-- The byte that should carry a cell code is above 63 (R16, D17). -/
  | cellCodeTooWide
  deriving DecidableEq, Repr

end Sys2Proof
end

