-- ==== Sys2Proof/WellFormed.lean ====
section
/-! DEFINITION. Which instructions are rows of the opcode table with an operand their row matches. -/

namespace Sys2Proof

/-- The 189 character codes of the fallback arm, by the ranges that 40_character_encoder.md R51 lists. -/
def isFallbackCode (c : CharWord) : Bool :=
  let n := c.toNat
  decide (n ≤ 0x1F) || decide (0x22 ≤ n ∧ n ≤ 0x2B) || decide (n = 0x2D) || decide (n = 0x2F) ||
  decide (0x3A ≤ n ∧ n ≤ 0x3E) || decide (n = 0x40) || decide (0x5B ≤ n ∧ n ≤ 0x60) ||
  decide (0x7B ≤ n ∧ n ≤ 0x7F) || decide (0x80 ≤ n)

/-- An instruction is well formed when its row matches its operand. Only the two fallback rows can fail: the
operand of every other row is any value of its type (R35, R44), and a fallback row is tried last (R42, R43). -/
def Instr.wellFormed : Instr → Bool
  | .encode _ => true
  | .pwlookup _ => true
  | .duty _ => true
  | .split _ => true
  | .encLetterA _ => true
  | .encLetterB _ => true
  | .encLetterC _ => true
  | .encLetterD _ => true
  | .encLetterE _ => true
  | .encLetterF _ => true
  | .encLetterG _ => true
  | .encLetterH _ => true
  | .encLetterI _ => true
  | .encLetterJ _ => true
  | .encLetterK _ => true
  | .encLetterL _ => true
  | .encLetterM _ => true
  | .encLetterN _ => true
  | .encLetterO _ => true
  | .encLetterP _ => true
  | .encLetterQ _ => true
  | .encLetterR _ => true
  | .encLetterS _ => true
  | .encLetterT _ => true
  | .encLetterU _ => true
  | .encLetterV _ => true
  | .encLetterW _ => true
  | .encLetterX _ => true
  | .encLetterY _ => true
  | .encLetterZ _ => true
  | .encDigit0 => true
  | .encDigit1 => true
  | .encDigit2 => true
  | .encDigit3 => true
  | .encDigit4 => true
  | .encDigit5 => true
  | .encDigit6 => true
  | .encDigit7 => true
  | .encDigit8 => true
  | .encDigit9 => true
  | .encSymSpace => true
  | .encSymPeriod => true
  | .encSymComma => true
  | .encSymQuestion => true
  | .encSymExclam => true
  | .encFallback c => isFallbackCode c
  | .pwl0 => true
  | .pwl1 => true
  | .pwl2 => true
  | .pwl3 => true
  | .pwl4 => true
  | .pwl5 => true
  | .pwl6 => true
  | .pwl7 => true
  | .pwlFallback i => decide (7 < i.toNat)

end Sys2Proof
end

