-- ==== Sys2Proof/Decode.lean ====
section
/-! DEFINITION. Decode: from the bytes of a request to the instruction, total, rejecting by name; and the encoder,
from the same tables (spec 30_encoding.md R34, R42, R43; spec/opcode_table.json). The character codes are the ASCII
codes of R36 (D3). -/

namespace Sys2Proof

/-- A row of a decode map: it matches an operand `w` when `w &&& mask = value` (R42). -/
structure DecodeRow where
  mask : BitVec 8
  value : BitVec 8
  build : BitVec 8 → Instr

/-- Whether a row matches an operand word (R42). -/
def DecodeRow.covers (r : DecodeRow) (w : BitVec 8) : Bool := (w &&& r.mask) == r.value

/-- A letter row: mask 0xDF, so that bit 5, the case bit, is free (R42). -/
def letterRow (value : CharWord) (build : Bool → Instr) : DecodeRow :=
  ⟨0xDF, value, fun w => build (w.getLsbD 5)⟩

/-- A row of one operand value: mask 0xFF. -/
def exactRow (value : BitVec 8) (i : Instr) : DecodeRow := ⟨0xFF, value, fun _ => i⟩

/-- The 26 letter rows, priority 1 of R42. -/
def letterRows : List DecodeRow :=
  [letterRow 0x41 .encLetterA,
   letterRow 0x42 .encLetterB,
   letterRow 0x43 .encLetterC,
   letterRow 0x44 .encLetterD,
   letterRow 0x45 .encLetterE,
   letterRow 0x46 .encLetterF,
   letterRow 0x47 .encLetterG,
   letterRow 0x48 .encLetterH,
   letterRow 0x49 .encLetterI,
   letterRow 0x4A .encLetterJ,
   letterRow 0x4B .encLetterK,
   letterRow 0x4C .encLetterL,
   letterRow 0x4D .encLetterM,
   letterRow 0x4E .encLetterN,
   letterRow 0x4F .encLetterO,
   letterRow 0x50 .encLetterP,
   letterRow 0x51 .encLetterQ,
   letterRow 0x52 .encLetterR,
   letterRow 0x53 .encLetterS,
   letterRow 0x54 .encLetterT,
   letterRow 0x55 .encLetterU,
   letterRow 0x56 .encLetterV,
   letterRow 0x57 .encLetterW,
   letterRow 0x58 .encLetterX,
   letterRow 0x59 .encLetterY,
   letterRow 0x5A .encLetterZ]

/-- The 10 digit rows, priority 2 of R42. -/
def digitRows : List DecodeRow :=
  [exactRow 0x30 .encDigit0,
   exactRow 0x31 .encDigit1,
   exactRow 0x32 .encDigit2,
   exactRow 0x33 .encDigit3,
   exactRow 0x34 .encDigit4,
   exactRow 0x35 .encDigit5,
   exactRow 0x36 .encDigit6,
   exactRow 0x37 .encDigit7,
   exactRow 0x38 .encDigit8,
   exactRow 0x39 .encDigit9]

/-- The 5 symbol rows, priority 3 of R42. -/
def symbolRows : List DecodeRow :=
  [exactRow 0x20 .encSymSpace,
   exactRow 0x2E .encSymPeriod,
   exactRow 0x2C .encSymComma,
   exactRow 0x3F .encSymQuestion,
   exactRow 0x21 .encSymExclam]

/-- The rows of ENCODE's decode map before the fallback row, in the order of R42. -/
def charRows : List DecodeRow := letterRows ++ digitRows ++ symbolRows

/-- The rows of PWLOOKUP's decode map before the fallback row, in the order of R43. -/
def idxRows : List DecodeRow :=
  [exactRow 0x00 .pwl0,
   exactRow 0x01 .pwl1,
   exactRow 0x02 .pwl2,
   exactRow 0x03 .pwl3,
   exactRow 0x04 .pwl4,
   exactRow 0x05 .pwl5,
   exactRow 0x06 .pwl6,
   exactRow 0x07 .pwl7]

/-- The first row that matches gives the instruction; where none does, the fallback row, whose mask is 0 and which
matches everything (R42, R43). -/
def firstMatch (rows : List DecodeRow) (fallback : BitVec 8 → Instr) (w : BitVec 8) : Instr :=
  match rows.find? (fun r => r.covers w) with
  | some r => r.build w
  | none => fallback w

/-- The decode of the character operand (R42). -/
def decodeChar (c : CharWord) : Instr := firstMatch charRows .encFallback c

/-- The decode of the index operand (R43). -/
def decodeIdx (i : IdxWord) : Instr := firstMatch idxRows .pwlFallback i

/-- A cell code carried in a byte: bits 7:6 must be zero (R16, D17). -/
def decodeCell (b : Byte) : Except Reject Instr :=
  if b.toNat < 64 then .ok (.split (b.setWidth 6)) else .error .cellCodeTooWide

/-- Read the operand word of a one-byte port; another number of bytes is rejected. -/
def oneByte (k : Byte → Except Reject Instr) (bytes : List Byte) : Except Reject Instr :=
  match bytes with
  | [b] => k b
  | bs => .error (.wrongByteCount bs.length)

/-- Read the operand word of a two-byte port, low byte first; another number of bytes is rejected. -/
def twoBytes (k : BitVec 16 → Except Reject Instr) (bytes : List Byte) : Except Reject Instr :=
  match bytes with
  | [lo, hi] => k (hi ++ lo)
  | bs => .error (.wrongByteCount bs.length)

/-- The instruction that the bytes of a request stand for. Every operand word of every port is legal (R44): only
a wrong number of bytes, and a byte that is no cell code, are rejected. -/
def decode (r : Request) : Except Reject Instr :=
  match r.format with
  | .operationChar8 => oneByte (fun c => .ok (.encode c)) r.bytes
  | .operationIdx8 => oneByte (fun i => .ok (.pwlookup i)) r.bytes
  | .operationPw16 => twoBytes (fun p => .ok (.duty p)) r.bytes
  | .helperCell6 => oneByte decodeCell r.bytes
  | .decodeChar8 => oneByte (fun c => .ok (decodeChar c)) r.bytes
  | .decodeIdx8 => oneByte (fun i => .ok (decodeIdx i)) r.bytes

/-- The character code of letter `k` from its row's encoding 01fxxxxx: bits 7:6 are 01, bit 5 is the case bit, and
bits 4:0 are k + 1 (R36, R41 (a), R42). -/
def letterCode (k : Fin 26) (f : Bool) : CharWord :=
  (0b01#2 ++ BitVec.ofBool f) ++ BitVec.ofNat 5 (k.val + 1)

/-- The character code of digit `k`: bits 7:4 are 0011 and bits 3:0 are k (R36, R41 (b)). -/
def digitCode (k : Fin 10) : CharWord := 0b0011#4 ++ BitVec.ofNat 4 k.val

/-- The index operand of the in-range row `k`: bits 7:3 are zero and bits 2:0 are k (R38). -/
def pulseCode (k : Fin 8) : IdxWord := 0b00000#5 ++ BitVec.ofNat 3 k.val

/-- The request that presents an instruction, from the encoding column of its row. -/
def encode : Instr → Request
  | .encode c => ⟨.operationChar8, [c]⟩
  | .pwlookup i => ⟨.operationIdx8, [i]⟩
  | .duty p => ⟨.operationPw16, [p.extractLsb' 0 8, p.extractLsb' 8 8]⟩
  | .split v => ⟨.helperCell6, [v.setWidth 8]⟩
  | .encLetterA f => ⟨.decodeChar8, [letterCode 0 f]⟩
  | .encLetterB f => ⟨.decodeChar8, [letterCode 1 f]⟩
  | .encLetterC f => ⟨.decodeChar8, [letterCode 2 f]⟩
  | .encLetterD f => ⟨.decodeChar8, [letterCode 3 f]⟩
  | .encLetterE f => ⟨.decodeChar8, [letterCode 4 f]⟩
  | .encLetterF f => ⟨.decodeChar8, [letterCode 5 f]⟩
  | .encLetterG f => ⟨.decodeChar8, [letterCode 6 f]⟩
  | .encLetterH f => ⟨.decodeChar8, [letterCode 7 f]⟩
  | .encLetterI f => ⟨.decodeChar8, [letterCode 8 f]⟩
  | .encLetterJ f => ⟨.decodeChar8, [letterCode 9 f]⟩
  | .encLetterK f => ⟨.decodeChar8, [letterCode 10 f]⟩
  | .encLetterL f => ⟨.decodeChar8, [letterCode 11 f]⟩
  | .encLetterM f => ⟨.decodeChar8, [letterCode 12 f]⟩
  | .encLetterN f => ⟨.decodeChar8, [letterCode 13 f]⟩
  | .encLetterO f => ⟨.decodeChar8, [letterCode 14 f]⟩
  | .encLetterP f => ⟨.decodeChar8, [letterCode 15 f]⟩
  | .encLetterQ f => ⟨.decodeChar8, [letterCode 16 f]⟩
  | .encLetterR f => ⟨.decodeChar8, [letterCode 17 f]⟩
  | .encLetterS f => ⟨.decodeChar8, [letterCode 18 f]⟩
  | .encLetterT f => ⟨.decodeChar8, [letterCode 19 f]⟩
  | .encLetterU f => ⟨.decodeChar8, [letterCode 20 f]⟩
  | .encLetterV f => ⟨.decodeChar8, [letterCode 21 f]⟩
  | .encLetterW f => ⟨.decodeChar8, [letterCode 22 f]⟩
  | .encLetterX f => ⟨.decodeChar8, [letterCode 23 f]⟩
  | .encLetterY f => ⟨.decodeChar8, [letterCode 24 f]⟩
  | .encLetterZ f => ⟨.decodeChar8, [letterCode 25 f]⟩
  | .encDigit0 => ⟨.decodeChar8, [digitCode 0]⟩
  | .encDigit1 => ⟨.decodeChar8, [digitCode 1]⟩
  | .encDigit2 => ⟨.decodeChar8, [digitCode 2]⟩
  | .encDigit3 => ⟨.decodeChar8, [digitCode 3]⟩
  | .encDigit4 => ⟨.decodeChar8, [digitCode 4]⟩
  | .encDigit5 => ⟨.decodeChar8, [digitCode 5]⟩
  | .encDigit6 => ⟨.decodeChar8, [digitCode 6]⟩
  | .encDigit7 => ⟨.decodeChar8, [digitCode 7]⟩
  | .encDigit8 => ⟨.decodeChar8, [digitCode 8]⟩
  | .encDigit9 => ⟨.decodeChar8, [digitCode 9]⟩
  | .encSymSpace => ⟨.decodeChar8, [0x20]⟩
  | .encSymPeriod => ⟨.decodeChar8, [0x2E]⟩
  | .encSymComma => ⟨.decodeChar8, [0x2C]⟩
  | .encSymQuestion => ⟨.decodeChar8, [0x3F]⟩
  | .encSymExclam => ⟨.decodeChar8, [0x21]⟩
  | .encFallback c => ⟨.decodeChar8, [c]⟩
  | .pwl0 => ⟨.decodeIdx8, [pulseCode 0]⟩
  | .pwl1 => ⟨.decodeIdx8, [pulseCode 1]⟩
  | .pwl2 => ⟨.decodeIdx8, [pulseCode 2]⟩
  | .pwl3 => ⟨.decodeIdx8, [pulseCode 3]⟩
  | .pwl4 => ⟨.decodeIdx8, [pulseCode 4]⟩
  | .pwl5 => ⟨.decodeIdx8, [pulseCode 5]⟩
  | .pwl6 => ⟨.decodeIdx8, [pulseCode 6]⟩
  | .pwl7 => ⟨.decodeIdx8, [pulseCode 7]⟩
  | .pwlFallback i => ⟨.decodeIdx8, [i]⟩

/-- The request that a word of the opcode table stands for, its bits numbered as the table numbers them. The word
alone does not say which port it is presented on (R34): 16 bits are DUTY's operand and 6 bits SPLIT's; an 8-bit
word is read by the rows of the decode maps, most specific first: 0x00 to 0x07 are the in-range rows of R43, every
other value is read by R42 (DESIGN CHOICE, notes/assumptions/9.md). -/
def tableRequest (nbits w : Nat) : Option Request :=
  match nbits with
  | 16 => some ⟨.operationPw16, [BitVec.ofNat 8 w, BitVec.ofNat 8 (w / 256)]⟩
  | 8 => some ⟨if w % 256 ≤ 7 then .decodeIdx8 else .decodeChar8, [BitVec.ofNat 8 w]⟩
  | 6 => some ⟨.helperCell6, [BitVec.ofNat 8 w]⟩
  | _ => none

/-- What the decoder reads from the bits `w` of an instruction of `nbits` bits. -/
def decodeTableWord (nbits w : Nat) : Option Instr :=
  match tableRequest nbits w with
  | none => none
  | some r =>
    match decode r with
    | .ok i => some i
    | .error _ => none

end Sys2Proof
end

