-- ==== Sys2Proof/Machine/Operands.lean ====
section
/-! DEFINITION. How indices, halves and fields are formed from the bits of an operand word (spec 30_encoding.md R38,
R40, R41; 40_character_encoder.md R47 to R49). No operand is sign-extended or scaled, and there are no immediates
(R41 (d)). -/

namespace Sys2Proof.Machine

/-- The case fold: 0x20 is added to 0x41..0x5A and to nothing else (R47). -/
def caseFold (c : CharWord) : CharWord := if 0x41 ≤ c ∧ c ≤ 0x5A then c + 0x20 else c

/-- The LETTER index of a folded character, when it is in 'a'..'z' (R41 (a), R48). -/
def letterIndex (c : CharWord) : Option (Fin 26) :=
  if h : 0x61 ≤ c.toNat ∧ c.toNat ≤ 0x7A then some ⟨c.toNat - 0x61, by omega⟩ else none

/-- The DIGIT index of a character, when it is in '0'..'9' (R41 (b), R49). -/
def digitIndex (c : CharWord) : Option (Fin 10) :=
  if h : 0x30 ≤ c.toNat ∧ c.toNat ≤ 0x39 then some ⟨c.toNat - 0x30, by omega⟩ else none

/-- The PW index of an index operand, when it is at most 7: the single comparison of PWLOOKUP, unsigned (R59, R61). -/
def pulseIndex (i : IdxWord) : Option (Fin 8) :=
  if h : i.toNat ≤ 7 then some ⟨i.toNat, by omega⟩ else none

/-- The field `over` of an index operand, bits 7:3 (R38). -/
def idxOver (i : IdxWord) : BitVec 5 := i.extractLsb' 3 5

/-- The field `sub` of an index operand, bits 2:0 (R38). -/
def idxSub (i : IdxWord) : SubPattern := i.extractLsb' 0 3

/-- The field `excess` of a duty word, bits 17:16 (R40). -/
def dutyExcess (d : DutyWord) : BitVec 2 := d.extractLsb' 16 2

/-- The upper half of a cell code, bits 5:3, the left column (R41 (c), R74, D11). -/
def cellHi (v : CellCode) : SubPattern := v.extractLsb' 3 3

/-- The lower half of a cell code, bits 2:0, the right column (R41 (c), R74, D11). -/
def cellLo (v : CellCode) : SubPattern := v.extractLsb' 0 3

/-- A half zero-extended to the width of `idx_in` (R41 (d)). -/
def halfIndex (h : SubPattern) : IdxWord := h.setWidth 8

/-- Whether dot position `i`, counted from 0, is raised: bit 5 - i (R27). Descriptive: no operation reads it. -/
def dotRaised (v : CellCode) (i : Fin 6) : Bool := v.getLsbD (5 - i.val)

end Sys2Proof.Machine
end

