-- ==== Sys2Proof/Config.lean ====
section
/-! DEFINITION. The configuration record `cfg` of spec 00_scope.md R6, its admissibility (R7), the reference
instantiation `REF` (R8), and the configuration of the modelled block, whose OPEN fields are opaque constants. The
widths of R6 are the types of Sys2Proof/Word.lean. -/

namespace Sys2Proof

/-- The constants of one instance of the block (R6). No operation writes a field (R30). -/
structure Config where
  /-- `LETTER_ROM[0..25]` (R21). -/
  letterRom : Vector CellCode 26
  /-- `DIGIT_ROM[0..9]` (R22). -/
  digitRom : Vector CellCode 10
  /-- `PW_ROM[0..7]`, microseconds (R25). -/
  pwRom : Vector PulseWord 8
  /-- `SYM_SPACE`. -/
  symSpace : CellCode
  /-- `SYM_PERIOD`. -/
  symPeriod : CellCode
  /-- `SYM_COMMA`. -/
  symComma : CellCode
  /-- `SYM_QUESTION`. -/
  symQuestion : CellCode
  /-- `SYM_EXCLAM`. -/
  symExclam : CellCode
  /-- `CELL_BLANK`, the fallback cell code. -/
  cellBlank : CellCode
  /-- `PWM_RESOLUTION`, the bit-width of the nominal duty range. -/
  pwmResolution : Nat
  /-- `PWM_PERIOD_US`, the PWM period in microseconds. -/
  pwmPeriodUs : Nat
  /-- `SCALER_PRESENT`, whether the DUTY unit exists. -/
  scalerPresent : Bool
  deriving DecidableEq, Repr

/-- `MAX_DUTY`, derived (R6): full scale of the nominal duty range. -/
def Config.maxDuty (cfg : Config) : Nat := 2 ^ cfg.pwmResolution - 1

/-- The 26 entries are pairwise distinct. -/
abbrev DistinctCells (t : Vector CellCode 26) : Prop := ∀ j k : Fin 26, j ≠ k → t[j] ≠ t[k]

/-- The 8 entries rise strictly with the index. -/
abbrev RisingPulses (t : Vector PulseWord 8) : Prop :=
  ∀ i : Fin 7, (t[i.val]).toNat < (t[i.val + 1]).toNat

/-- `CFG_LETTER_RANGE` (R7). It holds of every table of 6-bit words. -/
abbrev Config.LetterRange (cfg : Config) : Prop := ∀ k : Fin 26, (cfg.letterRom[k]).toNat ≤ 63

/-- `CFG_LETTER_DISTINCT` (R7). -/
abbrev Config.LetterDistinct (cfg : Config) : Prop := DistinctCells cfg.letterRom

/-- `CFG_DIGIT_RANGE` (R7). It holds of every table of 6-bit words. -/
abbrev Config.DigitRange (cfg : Config) : Prop := ∀ k : Fin 10, (cfg.digitRom[k]).toNat ≤ 63

/-- `CFG_SYMBOLS` (R7). -/
abbrev Config.Symbols (cfg : Config) : Prop :=
  cfg.symSpace = 0x00 ∧ cfg.symPeriod = 0x13 ∧ cfg.symComma = 0x10 ∧ cfg.symQuestion = 0x19 ∧
  cfg.symExclam = 0x1A ∧ cfg.cellBlank = 0x00

/-- `CFG_PW_ENDS` (R7). -/
abbrev Config.PwEnds (cfg : Config) : Prop := cfg.pwRom[0] = 844 ∧ cfg.pwRom[7] = 2094

/-- `CFG_PW_MONO` (R7). -/
abbrev Config.PwMono (cfg : Config) : Prop := RisingPulses cfg.pwRom

/-- `CFG_PW_RANGE` (R7). It holds of every table of `PW_W`-bit words. -/
abbrev Config.PwRange (cfg : Config) : Prop := ∀ i : Fin 8, (cfg.pwRom[i]).toNat < 2 ^ 16

/-- `CFG_PWM` (R7, D15). -/
abbrev Config.Pwm (cfg : Config) : Prop := 1 ≤ cfg.pwmResolution ∧ 1 ≤ cfg.pwmPeriodUs

/-- A configuration is admissible when all the named properties of R7 hold. -/
abbrev Config.Admissible (cfg : Config) : Prop :=
  cfg.LetterRange ∧ cfg.LetterDistinct ∧ cfg.DigitRange ∧ cfg.Symbols ∧ cfg.PwEnds ∧ cfg.PwMono ∧
  cfg.PwRange ∧ cfg.Pwm

/-- `CFG_LETTER_NONZERO`: named by R7 and not part of admissibility (D16). -/
abbrev Config.LetterNonzero (cfg : Config) : Prop := ∀ k : Fin 26, 1 ≤ (cfg.letterRom[k]).toNat

/-- The PWM constants have the values this spec takes (R6, D6). -/
abbrev Config.DecidedPwm (cfg : Config) : Prop := cfg.pwmResolution = 16 ∧ cfg.pwmPeriodUs = 20000

/-- A pulse-width table from its six OPEN entries; entries 0 and 7 are the source's (R25). -/
def pulseTable (m : Vector PulseWord 6) : Vector PulseWord 8 :=
  #v[844, m[0], m[1], m[2], m[3], m[4], m[5], 2094]

/-- `REF.LETTER_ROM` (R23). For tests, and as the witness that R7 can hold (R8); not the hardware's table. -/
def refLetterRom : Vector CellCode 26 :=
  #v[0x20, 0x30, 0x24, 0x26, 0x22, 0x34, 0x36, 0x32, 0x14, 0x16, 0x28, 0x38, 0x2C,
     0x2E, 0x2A, 0x3C, 0x3E, 0x3A, 0x1C, 0x1E, 0x29, 0x39, 0x17, 0x2D, 0x2F, 0x2B]

/-- `REF.DIGIT_ROM` (R24). -/
def refDigitRom : Vector CellCode 10 :=
  #v[0x16, 0x20, 0x30, 0x24, 0x26, 0x22, 0x34, 0x36, 0x32, 0x14]

/-- Entries 1 to 6 of `REF.PW_ROM` (R26). -/
def refPulses : Vector PulseWord 6 := #v[1023, 1201, 1380, 1558, 1737, 1915]

/-- A configuration from its three OPEN tables; every other field has the value of R6. -/
def Config.ofTables (letters : Vector CellCode 26) (digits : Vector CellCode 10)
    (pulses : Vector PulseWord 6) : Config where
  letterRom := letters
  digitRom := digits
  pwRom := pulseTable pulses
  symSpace := 0x00
  symPeriod := 0x13
  symComma := 0x10
  symQuestion := 0x19
  symExclam := 0x1A
  cellBlank := 0x00
  pwmResolution := 16
  pwmPeriodUs := 20000
  scalerPresent := true

/-- The reference instantiation `REF` (R8). -/
def Config.ref : Config := Config.ofTables refLetterRom refDigitRom refPulses

/-- The OPEN letter table (D8): any table of 26 cell codes. DESIGN CHOICE, notes/assumptions/1.md. -/
opaque Config.openLetterRom : Vector CellCode 26

/-- The OPEN digit table (D9): any table of 10 cell codes. DESIGN CHOICE, notes/assumptions/1.md. -/
opaque Config.openDigitRom : Vector CellCode 10

/-- The OPEN pulse widths 1 to 6 (D10): any six words. DESIGN CHOICE, notes/assumptions/1.md. -/
opaque Config.openPulses : Vector PulseWord 6

/-- The configuration of the modelled block: an admissible one, of which nothing more is known about an OPEN table.
R7 states every rule for admissible configurations only. An open table that breaks a property of R7 is no table of
the block, and the reference table stands in its place; since nothing can be proved of an opaque constant, no proof
can reach that case, and every admissible table stays possible (DESIGN CHOICE, notes/assumptions/1.md). -/
def Config.chip : Config :=
  Config.ofTables
    (if DistinctCells Config.openLetterRom then Config.openLetterRom else refLetterRom)
    Config.openDigitRom
    (if RisingPulses (pulseTable Config.openPulses) then Config.openPulses else refPulses)

end Sys2Proof
end

