-- ==== Sys2Proof/Machine/State.lean ====
section
/-! DEFINITION. The machine's state. The block itself holds nothing (spec 10_state.md R10 to R15, R17): State holds the
words on its ports (R16), the words of the caller's SPLIT (42_pipeline_composition.md R74) and the operations the caller
has issued. The tables are configuration, not state (R18). -/

namespace Sys2Proof.Machine

/-- The two ports of the DUTY unit (R16, R64). -/
structure ScalerPorts where
  /-- `pw_in`. -/
  pwIn : PulseWord
  /-- `duty_out`. -/
  dutyOut : DutyWord
  deriving DecidableEq, Repr

/-- The words on the ports, and what the caller holds. -/
structure State where
  /-- `char_in`, the operand port of ENCODE (R16). -/
  charIn : CharWord
  /-- `cell_out`, the result port of ENCODE (R16). -/
  cellOut : CellCode
  /-- `idx_in`, the operand port of PWLOOKUP (R16). -/
  idxIn : IdxWord
  /-- `pw_out`, the result port of PWLOOKUP (R16). -/
  pwOut : PulseWord
  /-- The ports of the DUTY unit; none where `SCALER_PRESENT` is false and the block has no such ports (R64). -/
  scaler : Option ScalerPorts
  /-- The operand of the caller's SPLIT (R74). The model's own field (notes/assumptions/10.md). -/
  splitIn : CellCode
  /-- The first half SPLIT gave, bits 5:3 (R74). The model's own field. -/
  splitHi : SubPattern
  /-- The second half SPLIT gave, bits 2:0 (R74). The model's own field. -/
  splitLo : SubPattern
  /-- The operations the caller has issued and the block has not evaluated yet, oldest first: the caller's "program"
  (00_scope.md R9). The model's own field (notes/assumptions/6.md). -/
  requests : List Request
  deriving DecidableEq, Repr

/-- The faults of the block: none. "total functions, fail-safe defaults, no raised errors" (60_exceptions.md R83), so
the type has no constructor and no step can answer a fault. -/
inductive Fault where
  deriving DecidableEq, Repr

/-- Why a step has no meaning. -/
inductive Refusal where
  /-- An instruction that has no meaning yet. No arm raises it. Safe. -/
  | notModelled (mnemonic : String)
  /-- Raised by DUTY in a block that has no DUTY unit: there is then no DUTY operation (41_actuation_mapper.md R64).
  Safe: the model stops where the hardware has no such operation. -/
  | scalerAbsent
  /-- Raised by the step when the request at the head of `requests` carries no operand word of its port. Safe: such a
  request cannot be put on the block's ports (70_reset_and_hazards.md R100, notes/assumptions/13.md). -/
  | undecodable (why : Reject)
  deriving DecidableEq, Repr

/-- The machine after reset. There is no state to reset (R19, R94). Every operand port carries zero, a value the spec
does not give (DESIGN CHOICE, notes/assumptions/4.md); every result port carries the function of its operand port (R19):
ENCODE(0x00) = 0x00 (R51), PWLOOKUP(0) = 844 (R59), DUTY(0) = 0 (R70), SPLIT(0x00) = (0, 0) (R74). The DUTY unit is
present (R6, D14). The caller has issued nothing (notes/assumptions/6.md). -/
def State.reset : State where
  charIn := 0x00
  cellOut := 0x00
  idxIn := 0x00
  pwOut := 844
  scaler := some ⟨0, 0⟩
  splitIn := 0x00
  splitHi := 0
  splitLo := 0
  requests := []

end Sys2Proof.Machine
end

