-- ==== Sys2Proof/Machine/Ops.lean ====
section
/-! DEFINITION. The shared operations: the table reads, the functions of the three units and of SPLIT for any
configuration, and driving a port pair. Nothing is writable (spec 20_memory.md R30), so there is no operation that writes
a table; nothing raises (60_exceptions.md R83, R87, R88), so there is no exception to take and none to return from. -/

namespace Sys2Proof.Machine

open Host (Outcome)

/-- `RomRead(LETTER, k)` (20_memory.md R21, R28). -/
def romLetter (cfg : Config) (k : Fin 26) : CellCode := cfg.letterRom[k]

/-- `RomRead(DIGIT, k)` (20_memory.md R22, R28). -/
def romDigit (cfg : Config) (k : Fin 10) : CellCode := cfg.digitRom[k]

/-- `RomRead(PW, k)` (20_memory.md R25, R28). -/
def romPulse (cfg : Config) (k : Fin 8) : PulseWord := cfg.pwRom[k]

/-- The symbol arm: the constant of one of the five symbols (40_character_encoder.md R50). -/
def symbolCell (cfg : Config) (c : CharWord) : Option CellCode :=
  if c = 0x20 then some cfg.symSpace
  else if c = 0x2E then some cfg.symPeriod
  else if c = 0x2C then some cfg.symComma
  else if c = 0x3F then some cfg.symQuestion
  else if c = 0x21 then some cfg.symExclam
  else none

/-- The arms of ENCODE on a folded character, in the order of R52: letter (R48), digit (R49), symbol (R50), and
otherwise the blank cell (R51). -/
def foldedCell (cfg : Config) (c : CharWord) : CellCode :=
  match letterIndex c with
  | some k => romLetter cfg k
  | none =>
    match digitIndex c with
    | some k => romDigit cfg k
    | none =>
      match symbolCell cfg c with
      | some v => v
      | none => cfg.cellBlank

/-- The function of ENCODE (40_character_encoder.md R46). -/
def encodeCell (cfg : Config) (c : CharWord) : CellCode := foldedCell cfg (caseFold c)

/-- The function of PWLOOKUP: the entry at an index up to 7, and entry 0 above (41_actuation_mapper.md R58 to R60). -/
def pulseWidth (cfg : Config) (i : IdxWord) : PulseWord :=
  match pulseIndex i with
  | some k => romPulse cfg k
  | none => romPulse cfg 0

/-- The quotient of DUTY over the natural numbers: multiply by `MAX_DUTY` first, then divide by the period and drop
the remainder (41_actuation_mapper.md R65 to R67). -/
def dutyQuotient (cfg : Config) (p : Nat) : Nat := p * cfg.maxDuty / cfg.pwmPeriodUs

/-- The function of DUTY: the quotient on 18 bits, neither saturated nor reduced to 16 bits (R64, R68). -/
def dutyValue (cfg : Config) (p : PulseWord) : DutyWord := BitVec.ofNat 18 (dutyQuotient cfg p.toNat)

/-- `char_in` carries `c` and `cell_out` carries `v`. -/
def State.driveChar (s : State) (c : CharWord) (v : CellCode) : State := { s with charIn := c, cellOut := v }

/-- `idx_in` carries `i` and `pw_out` carries `p`. -/
def State.driveIdx (s : State) (i : IdxWord) (p : PulseWord) : State := { s with idxIn := i, pwOut := p }

/-- The DUTY unit's `pw_in` carries `p` and its `duty_out` carries `d`. -/
def State.driveScaler (s : State) (p : PulseWord) (d : DutyWord) : State := { s with scaler := some ⟨p, d⟩ }

/-- The caller has split `v` into its halves. -/
def State.driveSplit (s : State) (v : CellCode) : State :=
  { s with splitIn := v, splitHi := cellHi v, splitLo := cellLo v }

/-- The caller's outstanding operations are `rs`. -/
def State.withRequests (s : State) (rs : List Request) : State := { s with requests := rs }

/-- The word on `duty_out`, where the port exists. -/
def State.dutyOut (s : State) : Option DutyWord := s.scaler.map ScalerPorts.dutyOut

/-- The arm of letter `k` on the code of case bit `f` (R42, R48). -/
def letterArm (k : Fin 26) (f : Bool) (s : State) : State :=
  s.driveChar (letterCode k f) (romLetter Config.chip k)

/-- The arm of digit `k` (R42, R49). -/
def digitArm (k : Fin 10) (s : State) : State := s.driveChar (digitCode k) (romDigit Config.chip k)

/-- The in-range arm of PWLOOKUP for index `k` (R43, R59). -/
def pulseArm (k : Fin 8) (s : State) : State := s.driveIdx (pulseCode k) (romPulse Config.chip k)

/-- The oldest operation the caller has issued, and the state with it taken. -/
def takeRequest (s : State) : Option (Request × State) :=
  match s.requests with
  | [] => none
  | r :: rest => some (r, s.withRequests rest)

/-- Continue with the next state of an outcome; a fault or a refusal stays. -/
def andThen {α β : Type} (o : Outcome α Fault Refusal) (k : α → Outcome β Fault Refusal) :
    Outcome β Fault Refusal :=
  match o with
  | .next s => k s
  | .fault r => .fault r
  | .refused r => .refused r

end Sys2Proof.Machine
end

