-- ==== Sys2Proof/Machine/ActuationMapper.lean ====
section
/-! DEFINITION. The meanings of PWLOOKUP, of the rows of its decode map, and of DUTY (spec 41_actuation_mapper.md R58 to
R73, 30_encoding.md R43). -/

namespace Sys2Proof.Machine

open Host (Outcome)

/-- PWLOOKUP (R58). -/
def execPwlookup (i : IdxWord) (s : State) : Outcome State Fault Refusal :=
  .next (s.driveIdx i (pulseWidth Config.chip i))

/-- DUTY (R64). Every pulse width has its quotient, above the period too (R69). A block without the DUTY unit has no
such operation. -/
def execDuty (p : PulseWord) (s : State) : Outcome State Fault Refusal :=
  match s.scaler with
  | some _ => .next (s.driveScaler p (dutyValue Config.chip p))
  | none => .refused .scalerAbsent

/-- PWL.0 (R59): `PW_ROM[0]`. -/
def execPwl0 (s : State) : Outcome State Fault Refusal := .next (pulseArm 0 s)

/-- PWL.1 (R59): `PW_ROM[1]`. -/
def execPwl1 (s : State) : Outcome State Fault Refusal := .next (pulseArm 1 s)

/-- PWL.2 (R59): `PW_ROM[2]`. -/
def execPwl2 (s : State) : Outcome State Fault Refusal := .next (pulseArm 2 s)

/-- PWL.3 (R59): `PW_ROM[3]`. -/
def execPwl3 (s : State) : Outcome State Fault Refusal := .next (pulseArm 3 s)

/-- PWL.4 (R59): `PW_ROM[4]`. -/
def execPwl4 (s : State) : Outcome State Fault Refusal := .next (pulseArm 4 s)

/-- PWL.5 (R59): `PW_ROM[5]`. -/
def execPwl5 (s : State) : Outcome State Fault Refusal := .next (pulseArm 5 s)

/-- PWL.6 (R59): `PW_ROM[6]`. -/
def execPwl6 (s : State) : Outcome State Fault Refusal := .next (pulseArm 6 s)

/-- PWL.7 (R59): `PW_ROM[7]`. -/
def execPwl7 (s : State) : Outcome State Fault Refusal := .next (pulseArm 7 s)

/-- PWL.FALLBACK (R60): `PW_ROM[0]`, the home position. -/
def execPwlFallback (i : IdxWord) (s : State) : Outcome State Fault Refusal :=
  .next (s.driveIdx i (romPulse Config.chip 0))

end Sys2Proof.Machine
end

