-- ==== Sys2Proof/Machine/Caller.lean ====
section
/-! DEFINITION. The caller's side that the spec states (42_pipeline_composition.md): SPLIT (R74), the composite of one
character (R75), the cells of a text (R78) and the Command Record (R79). -/

namespace Sys2Proof.Machine

open Host (Outcome)

/-- SPLIT (R74). -/
def execSplit (v : CellCode) (s : State) : Outcome State Fault Refusal := .next (s.driveSplit v)

/-- The pair that SPLIT gives: the left column first (R74, D11). -/
def splitCell (v : CellCode) : SubPattern × SubPattern := (cellHi v, cellLo v)

/-- The pulse widths `(p_hi, p_lo)` of one character: where the pipeline ends when there is no DUTY unit (R75). -/
def renderPulses (cfg : Config) (c : CharWord) : PulseWord × PulseWord :=
  let halves := splitCell (encodeCell cfg c)
  (pulseWidth cfg (halfIndex halves.1), pulseWidth cfg (halfIndex halves.2))

/-- What the caller has in hand when the pipeline of one character ends (R75). -/
inductive Rendered where
  /-- The hardware-ready duties `(d_hi, d_lo)`. -/
  | duties (hi lo : DutyWord)
  /-- The pulse widths `(p_hi, p_lo)`, where there is no DUTY unit. -/
  | pulses (hi lo : PulseWord)
  deriving DecidableEq, Repr

/-- `RENDER_CHAR` (R75): the two duties of one character, or its two pulse widths when `SCALER_PRESENT` is false. -/
def renderChar (cfg : Config) (c : CharWord) : Rendered :=
  let pulses := renderPulses cfg c
  if cfg.scalerPresent then .duties (dutyValue cfg pulses.1) (dutyValue cfg pulses.2)
  else .pulses pulses.1 pulses.2

/-- The cells of a text: one ENCODE per character, in string order (R78). -/
def textCells (cfg : Config) (text : List CharWord) : List CellCode := text.map (encodeCell cfg)

/-- The Command Record with its defaults (R79). It is the caller's: no port of the block carries any of its fields,
and nothing but `text` reaches the block (R79, R80). -/
structure CommandRecord where
  /-- The text to render, one byte a character. R79 gives no default. -/
  text : List CharWord
  /-- Inter-character delay, milliseconds. -/
  charDelay : Nat := 3000
  /-- Inter-servo delay, milliseconds. -/
  servoDelay : Nat := 750
  dualServo : Bool := false
  debugMode : Bool := false
  deriving DecidableEq, Repr

/-- The ENCODE operations that the record's text issues, one character at a time (R78, R79). -/
def CommandRecord.requests (r : CommandRecord) : List Request := r.text.map (fun c => encode (.encode c))

end Sys2Proof.Machine
end

