-- ==== Sys2Proof/Machine/CharacterEncoder.lean ====
section
/-! DEFINITION. The meanings of ENCODE and of the rows of its decode map (spec 40_character_encoder.md R46 to R57,
30_encoding.md R42). Each drives char_in with its operand and cell_out with its result, and nothing else: no flag, no
state, no exception (R46). -/

namespace Sys2Proof.Machine

open Host (Outcome)

/-- ENCODE (R46). -/
def execEncode (c : CharWord) (s : State) : Outcome State Fault Refusal :=
  .next (s.driveChar c (encodeCell Config.chip c))

/-- ENC.LETTER.a (R48): `LETTER_ROM[0]`. -/
def execEncLetterA (f : Bool) (s : State) : Outcome State Fault Refusal := .next (letterArm 0 f s)

/-- ENC.LETTER.b (R48): `LETTER_ROM[1]`. -/
def execEncLetterB (f : Bool) (s : State) : Outcome State Fault Refusal := .next (letterArm 1 f s)

/-- ENC.LETTER.c (R48): `LETTER_ROM[2]`. -/
def execEncLetterC (f : Bool) (s : State) : Outcome State Fault Refusal := .next (letterArm 2 f s)

/-- ENC.LETTER.d (R48): `LETTER_ROM[3]`. -/
def execEncLetterD (f : Bool) (s : State) : Outcome State Fault Refusal := .next (letterArm 3 f s)

/-- ENC.LETTER.e (R48): `LETTER_ROM[4]`. -/
def execEncLetterE (f : Bool) (s : State) : Outcome State Fault Refusal := .next (letterArm 4 f s)

/-- ENC.LETTER.f (R48): `LETTER_ROM[5]`. -/
def execEncLetterF (f : Bool) (s : State) : Outcome State Fault Refusal := .next (letterArm 5 f s)

/-- ENC.LETTER.g (R48): `LETTER_ROM[6]`. -/
def execEncLetterG (f : Bool) (s : State) : Outcome State Fault Refusal := .next (letterArm 6 f s)

/-- ENC.LETTER.h (R48): `LETTER_ROM[7]`. -/
def execEncLetterH (f : Bool) (s : State) : Outcome State Fault Refusal := .next (letterArm 7 f s)

/-- ENC.LETTER.i (R48): `LETTER_ROM[8]`. -/
def execEncLetterI (f : Bool) (s : State) : Outcome State Fault Refusal := .next (letterArm 8 f s)

/-- ENC.LETTER.j (R48): `LETTER_ROM[9]`. -/
def execEncLetterJ (f : Bool) (s : State) : Outcome State Fault Refusal := .next (letterArm 9 f s)

/-- ENC.LETTER.k (R48): `LETTER_ROM[10]`. -/
def execEncLetterK (f : Bool) (s : State) : Outcome State Fault Refusal := .next (letterArm 10 f s)

/-- ENC.LETTER.l (R48): `LETTER_ROM[11]`. -/
def execEncLetterL (f : Bool) (s : State) : Outcome State Fault Refusal := .next (letterArm 11 f s)

/-- ENC.LETTER.m (R48): `LETTER_ROM[12]`. -/
def execEncLetterM (f : Bool) (s : State) : Outcome State Fault Refusal := .next (letterArm 12 f s)

/-- ENC.LETTER.n (R48): `LETTER_ROM[13]`. -/
def execEncLetterN (f : Bool) (s : State) : Outcome State Fault Refusal := .next (letterArm 13 f s)

/-- ENC.LETTER.o (R48): `LETTER_ROM[14]`. -/
def execEncLetterO (f : Bool) (s : State) : Outcome State Fault Refusal := .next (letterArm 14 f s)

/-- ENC.LETTER.p (R48): `LETTER_ROM[15]`. -/
def execEncLetterP (f : Bool) (s : State) : Outcome State Fault Refusal := .next (letterArm 15 f s)

/-- ENC.LETTER.q (R48): `LETTER_ROM[16]`. -/
def execEncLetterQ (f : Bool) (s : State) : Outcome State Fault Refusal := .next (letterArm 16 f s)

/-- ENC.LETTER.r (R48): `LETTER_ROM[17]`. -/
def execEncLetterR (f : Bool) (s : State) : Outcome State Fault Refusal := .next (letterArm 17 f s)

/-- ENC.LETTER.s (R48): `LETTER_ROM[18]`. -/
def execEncLetterS (f : Bool) (s : State) : Outcome State Fault Refusal := .next (letterArm 18 f s)

/-- ENC.LETTER.t (R48): `LETTER_ROM[19]`. -/
def execEncLetterT (f : Bool) (s : State) : Outcome State Fault Refusal := .next (letterArm 19 f s)

/-- ENC.LETTER.u (R48): `LETTER_ROM[20]`. -/
def execEncLetterU (f : Bool) (s : State) : Outcome State Fault Refusal := .next (letterArm 20 f s)

/-- ENC.LETTER.v (R48): `LETTER_ROM[21]`. -/
def execEncLetterV (f : Bool) (s : State) : Outcome State Fault Refusal := .next (letterArm 21 f s)

/-- ENC.LETTER.w (R48): `LETTER_ROM[22]`. -/
def execEncLetterW (f : Bool) (s : State) : Outcome State Fault Refusal := .next (letterArm 22 f s)

/-- ENC.LETTER.x (R48): `LETTER_ROM[23]`. -/
def execEncLetterX (f : Bool) (s : State) : Outcome State Fault Refusal := .next (letterArm 23 f s)

/-- ENC.LETTER.y (R48): `LETTER_ROM[24]`. -/
def execEncLetterY (f : Bool) (s : State) : Outcome State Fault Refusal := .next (letterArm 24 f s)

/-- ENC.LETTER.z (R48): `LETTER_ROM[25]`. -/
def execEncLetterZ (f : Bool) (s : State) : Outcome State Fault Refusal := .next (letterArm 25 f s)

/-- ENC.DIGIT.0 (R49): `DIGIT_ROM[0]`. -/
def execEncDigit0 (s : State) : Outcome State Fault Refusal := .next (digitArm 0 s)

/-- ENC.DIGIT.1 (R49): `DIGIT_ROM[1]`. -/
def execEncDigit1 (s : State) : Outcome State Fault Refusal := .next (digitArm 1 s)

/-- ENC.DIGIT.2 (R49): `DIGIT_ROM[2]`. -/
def execEncDigit2 (s : State) : Outcome State Fault Refusal := .next (digitArm 2 s)

/-- ENC.DIGIT.3 (R49): `DIGIT_ROM[3]`. -/
def execEncDigit3 (s : State) : Outcome State Fault Refusal := .next (digitArm 3 s)

/-- ENC.DIGIT.4 (R49): `DIGIT_ROM[4]`. -/
def execEncDigit4 (s : State) : Outcome State Fault Refusal := .next (digitArm 4 s)

/-- ENC.DIGIT.5 (R49): `DIGIT_ROM[5]`. -/
def execEncDigit5 (s : State) : Outcome State Fault Refusal := .next (digitArm 5 s)

/-- ENC.DIGIT.6 (R49): `DIGIT_ROM[6]`. -/
def execEncDigit6 (s : State) : Outcome State Fault Refusal := .next (digitArm 6 s)

/-- ENC.DIGIT.7 (R49): `DIGIT_ROM[7]`. -/
def execEncDigit7 (s : State) : Outcome State Fault Refusal := .next (digitArm 7 s)

/-- ENC.DIGIT.8 (R49): `DIGIT_ROM[8]`. -/
def execEncDigit8 (s : State) : Outcome State Fault Refusal := .next (digitArm 8 s)

/-- ENC.DIGIT.9 (R49): `DIGIT_ROM[9]`. -/
def execEncDigit9 (s : State) : Outcome State Fault Refusal := .next (digitArm 9 s)

/-- ENC.SYM.SPACE (R50): code 0x20. -/
def execEncSymSpace (s : State) : Outcome State Fault Refusal := .next (s.driveChar 0x20 Config.chip.symSpace)

/-- ENC.SYM.PERIOD (R50): code 0x2E. -/
def execEncSymPeriod (s : State) : Outcome State Fault Refusal := .next (s.driveChar 0x2E Config.chip.symPeriod)

/-- ENC.SYM.COMMA (R50): code 0x2C. -/
def execEncSymComma (s : State) : Outcome State Fault Refusal := .next (s.driveChar 0x2C Config.chip.symComma)

/-- ENC.SYM.QUESTION (R50): code 0x3F. -/
def execEncSymQuestion (s : State) : Outcome State Fault Refusal := .next (s.driveChar 0x3F Config.chip.symQuestion)

/-- ENC.SYM.EXCLAM (R50): code 0x21. -/
def execEncSymExclam (s : State) : Outcome State Fault Refusal := .next (s.driveChar 0x21 Config.chip.symExclam)

/-- ENC.FALLBACK (R51): the blank cell. -/
def execEncFallback (c : CharWord) (s : State) : Outcome State Fault Refusal :=
  .next (s.driveChar c Config.chip.cellBlank)

end Sys2Proof.Machine
end

