-- ==== Sys2Proof/Machine/Dispatch.lean ====
section
/-! DEFINITION. One arm per instruction. -/

namespace Sys2Proof.Machine

def exec (i : Instr) (s : State) : Host.Outcome State Fault Refusal :=
  match i with
  | .encode c => Sys2Proof.Machine.execEncode c s
  | .pwlookup idx => Sys2Proof.Machine.execPwlookup idx s
  | .duty p => Sys2Proof.Machine.execDuty p s
  | .split v => Sys2Proof.Machine.execSplit v s
  | .encLetterA f => Sys2Proof.Machine.execEncLetterA f s
  | .encLetterB f => Sys2Proof.Machine.execEncLetterB f s
  | .encLetterC f => Sys2Proof.Machine.execEncLetterC f s
  | .encLetterD f => Sys2Proof.Machine.execEncLetterD f s
  | .encLetterE f => Sys2Proof.Machine.execEncLetterE f s
  | .encLetterF f => Sys2Proof.Machine.execEncLetterF f s
  | .encLetterG f => Sys2Proof.Machine.execEncLetterG f s
  | .encLetterH f => Sys2Proof.Machine.execEncLetterH f s
  | .encLetterI f => Sys2Proof.Machine.execEncLetterI f s
  | .encLetterJ f => Sys2Proof.Machine.execEncLetterJ f s
  | .encLetterK f => Sys2Proof.Machine.execEncLetterK f s
  | .encLetterL f => Sys2Proof.Machine.execEncLetterL f s
  | .encLetterM f => Sys2Proof.Machine.execEncLetterM f s
  | .encLetterN f => Sys2Proof.Machine.execEncLetterN f s
  | .encLetterO f => Sys2Proof.Machine.execEncLetterO f s
  | .encLetterP f => Sys2Proof.Machine.execEncLetterP f s
  | .encLetterQ f => Sys2Proof.Machine.execEncLetterQ f s
  | .encLetterR f => Sys2Proof.Machine.execEncLetterR f s
  | .encLetterS f => Sys2Proof.Machine.execEncLetterS f s
  | .encLetterT f => Sys2Proof.Machine.execEncLetterT f s
  | .encLetterU f => Sys2Proof.Machine.execEncLetterU f s
  | .encLetterV f => Sys2Proof.Machine.execEncLetterV f s
  | .encLetterW f => Sys2Proof.Machine.execEncLetterW f s
  | .encLetterX f => Sys2Proof.Machine.execEncLetterX f s
  | .encLetterY f => Sys2Proof.Machine.execEncLetterY f s
  | .encLetterZ f => Sys2Proof.Machine.execEncLetterZ f s
  | .encDigit0 => Sys2Proof.Machine.execEncDigit0 s
  | .encDigit1 => Sys2Proof.Machine.execEncDigit1 s
  | .encDigit2 => Sys2Proof.Machine.execEncDigit2 s
  | .encDigit3 => Sys2Proof.Machine.execEncDigit3 s
  | .encDigit4 => Sys2Proof.Machine.execEncDigit4 s
  | .encDigit5 => Sys2Proof.Machine.execEncDigit5 s
  | .encDigit6 => Sys2Proof.Machine.execEncDigit6 s
  | .encDigit7 => Sys2Proof.Machine.execEncDigit7 s
  | .encDigit8 => Sys2Proof.Machine.execEncDigit8 s
  | .encDigit9 => Sys2Proof.Machine.execEncDigit9 s
  | .encSymSpace => Sys2Proof.Machine.execEncSymSpace s
  | .encSymPeriod => Sys2Proof.Machine.execEncSymPeriod s
  | .encSymComma => Sys2Proof.Machine.execEncSymComma s
  | .encSymQuestion => Sys2Proof.Machine.execEncSymQuestion s
  | .encSymExclam => Sys2Proof.Machine.execEncSymExclam s
  | .encFallback c => Sys2Proof.Machine.execEncFallback c s
  | .pwl0 => Sys2Proof.Machine.execPwl0 s
  | .pwl1 => Sys2Proof.Machine.execPwl1 s
  | .pwl2 => Sys2Proof.Machine.execPwl2 s
  | .pwl3 => Sys2Proof.Machine.execPwl3 s
  | .pwl4 => Sys2Proof.Machine.execPwl4 s
  | .pwl5 => Sys2Proof.Machine.execPwl5 s
  | .pwl6 => Sys2Proof.Machine.execPwl6 s
  | .pwl7 => Sys2Proof.Machine.execPwl7 s
  | .pwlFallback idx => Sys2Proof.Machine.execPwlFallback idx s

end Sys2Proof.Machine
end

