-- ==== Sys2Proof/Machine/Step.lean ====
section
/-! DEFINITION. One step: the oldest operation the caller has issued is evaluated (spec 70_reset_and_hazards.md R97). -/

namespace Sys2Proof.Machine

open Host (Outcome)

/-- One step. When the caller has issued nothing, nothing changes: the block never ends a run by itself and never
hangs (R97, R99; notes/assumptions/7.md). -/
def step (s : State) : Outcome State Fault Refusal :=
  match takeRequest s with
  | none => .next s
  | some (r, s') =>
    match decode r with
    | .ok i => exec i s'
    | .error why => .refused (.undecodable why)

/-- The state in which the caller presents next the instruction whose bits are `w` (notes/assumptions/6.md, 9.md). -/
def State.withFetchWord (s : State) (nbits w : Nat) : State :=
  match tableRequest nbits w with
  | some r => s.withRequests (r :: s.requests)
  | none => s

end Sys2Proof.Machine
end

