-- ==== Sys2Proof/Machine/Pipeline.lean ====
section
/-! DEFINITION. The per-character pipeline as the caller runs it, operation by operation through exec (spec
42_pipeline_composition.md R75). -/

namespace Sys2Proof.Machine

open Host (Outcome)

/-- The last part of the pipeline: each pulse width to the DUTY unit, where there is one. -/
def scalePulses (hi lo : PulseWord) (s : State) : Outcome (State × Rendered) Fault Refusal :=
  match s.dutyOut with
  | none => .next (s, .pulses hi lo)
  | some _ =>
    andThen (exec (.duty hi) s) fun s₁ =>
    andThen (exec (.duty lo) s₁) fun s₂ =>
    .next (s₂, .duties ((s₁.dutyOut).getD 0) ((s₂.dutyOut).getD 0))

/-- The caller's pipeline for the character `c`: ENCODE, SPLIT, PWLOOKUP of each half, DUTY of each pulse width; the
operand of each operation is what the result port of an earlier one carries (R75, R98, R101). -/
def renderByOperations (c : CharWord) (s : State) : Outcome (State × Rendered) Fault Refusal :=
  andThen (exec (.encode c) s) fun s₁ =>
  andThen (exec (.split s₁.cellOut) s₁) fun s₂ =>
  andThen (exec (.pwlookup (halfIndex s₂.splitHi)) s₂) fun s₃ =>
  andThen (exec (.pwlookup (halfIndex s₂.splitLo)) s₃) fun s₄ =>
  scalePulses s₃.pwOut s₄.pwOut s₄

end Sys2Proof.Machine
end

