-- ==== Sys2Proof/Safety.lean ====
section
/-! DEFINITION. What a good state and a good run of the block are, in the terms the claims use. -/

namespace Sys2Proof.Machine

/-- Each result port carries the function of its own operand port (spec 10_state.md R16, R19), and the caller's halves
are those of the cell it split (42_pipeline_composition.md R74). -/
structure State.Coherent (s : State) : Prop where
  cell : s.cellOut = encodeCell Config.chip s.charIn
  pulse : s.pwOut = pulseWidth Config.chip s.idxIn
  duty : ∀ u, s.scaler = some u → u.dutyOut = dutyValue Config.chip u.pwIn
  split : (s.splitHi, s.splitLo) = splitCell s.splitIn

/-- The word on pw_out is a pulse width the table allows: in [844, 2094] (41_actuation_mapper.md R63 (a)). -/
def State.PulseInRange (s : State) : Prop := 844 ≤ s.pwOut.toNat ∧ s.pwOut.toNat ≤ 2094

/-- The word on duty_out, where there is one, is in the nominal range (R69). -/
def State.DutyNominal (s : State) : Prop := ∀ d, s.dutyOut = some d → d.toNat ≤ Config.chip.maxDuty

/-- The caller's one obligation, for a pulse width it gives DUTY (70_reset_and_hazards.md R100). -/
def CallerKeepsPeriod (p : PulseWord) : Prop := p.toNat ≤ Config.chip.pwmPeriodUs

/-- The block built from the configuration `cfg`, before the caller has driven anything (10_state.md R19): operand ports
zero (notes/assumptions/4.md), result ports the functions of them, the DUTY unit as `SCALER_PRESENT` says (R64). -/
def State.powerUp (cfg : Config) : State where
  charIn := 0
  cellOut := encodeCell cfg 0
  idxIn := 0
  pwOut := pulseWidth cfg 0
  scaler := if cfg.scalerPresent then some ⟨0, dutyValue cfg 0⟩ else none
  splitIn := 0
  splitHi := cellHi 0
  splitLo := cellLo 0
  requests := []

/-- The configuration of the block that a state belongs to: the modelled configuration, with `SCALER_PRESENT` as the
state's ports show it (R64: everything else is unchanged, D14). -/
def State.config (s : State) : Config := { Config.chip with scalerPresent := s.scaler.isSome }

/-- The units of R16 and, for SPLIT, the caller. -/
inductive PortUnit where
  /-- ENCODE: char_in and cell_out. -/
  | encoder
  /-- PWLOOKUP: idx_in and pw_out. -/
  | lookup
  /-- DUTY: pw_in and duty_out. -/
  | scaler
  /-- The caller, which performs SPLIT (R74). -/
  | caller
  deriving DecidableEq, Repr

/-- The unit that an instruction is for, by the port of its format (R16, R34). -/
def instrUnit (i : Instr) : PortUnit :=
  match (encode i).format with
  | .operationChar8 => .encoder
  | .decodeChar8 => .encoder
  | .operationIdx8 => .lookup
  | .decodeIdx8 => .lookup
  | .operationPw16 => .scaler
  | .helperCell6 => .caller

/-- The block has the unit that an instruction uses: DUTY needs the DUTY unit (R64). -/
def UnitPresent (i : Instr) (s : State) : Prop := instrUnit i = .scaler → s.scaler.isSome = true

end Sys2Proof.Machine
end

