-- ==== Sys2Proof/Certificates/Slice0/Obligations.lean ====
section
/-! DEFINITION. The statements for the provers. Where a docstring names notes/assumptions/<n>.md, that clause is the
model's choice and no rule of the spec. -/

open Sys2Proof Sys2Proof.Machine

/-- R46: the complete rule of ENCODE. -/
def Obligations.EncodeGivesCellOfCharacter : Prop :=
  ∀ (c : CharWord) (s : State), ∃ v : CellCode,
    exec (.encode c) s = .next { s with charIn := c, cellOut := v } ∧
    (∀ k : Fin 26, c.toNat = 0x41 + k.val ∨ c.toNat = 0x61 + k.val → v = Config.chip.letterRom[k]) ∧
    (∀ k : Fin 10, c.toNat = 0x30 + k.val → v = Config.chip.digitRom[k]) ∧
    (c = 0x20 → v = 0x00) ∧ (c = 0x2E → v = 0x13) ∧ (c = 0x2C → v = 0x10) ∧ (c = 0x3F → v = 0x19) ∧
    (c = 0x21 → v = 0x1A) ∧
    ((∀ k : Fin 26, c.toNat ≠ 0x41 + k.val ∧ c.toNat ≠ 0x61 + k.val) → (∀ k : Fin 10, c.toNat ≠ 0x30 + k.val) →
      c ∉ [0x20, 0x2E, 0x2C, 0x3F, 0x21] → v = 0x00)

/-- The 26 letter rows of R42, each by its own constructor. That a row is an instruction is the model's choice (notes/assumptions/11.md). -/
def Obligations.LetterRowsGiveLetterRom : Prop :=
  ∀ (f : Bool) (s : State),
    exec (.encLetterA f) s = .next { s with charIn := if f then 0x61 else 0x41, cellOut := Config.chip.letterRom[0] } ∧
    exec (.encLetterB f) s = .next { s with charIn := if f then 0x62 else 0x42, cellOut := Config.chip.letterRom[1] } ∧
    exec (.encLetterC f) s = .next { s with charIn := if f then 0x63 else 0x43, cellOut := Config.chip.letterRom[2] } ∧
    exec (.encLetterD f) s = .next { s with charIn := if f then 0x64 else 0x44, cellOut := Config.chip.letterRom[3] } ∧
    exec (.encLetterE f) s = .next { s with charIn := if f then 0x65 else 0x45, cellOut := Config.chip.letterRom[4] } ∧
    exec (.encLetterF f) s = .next { s with charIn := if f then 0x66 else 0x46, cellOut := Config.chip.letterRom[5] } ∧
    exec (.encLetterG f) s = .next { s with charIn := if f then 0x67 else 0x47, cellOut := Config.chip.letterRom[6] } ∧
    exec (.encLetterH f) s = .next { s with charIn := if f then 0x68 else 0x48, cellOut := Config.chip.letterRom[7] } ∧
    exec (.encLetterI f) s = .next { s with charIn := if f then 0x69 else 0x49, cellOut := Config.chip.letterRom[8] } ∧
    exec (.encLetterJ f) s = .next { s with charIn := if f then 0x6A else 0x4A, cellOut := Config.chip.letterRom[9] } ∧
    exec (.encLetterK f) s = .next { s with charIn := if f then 0x6B else 0x4B, cellOut := Config.chip.letterRom[10] } ∧
    exec (.encLetterL f) s = .next { s with charIn := if f then 0x6C else 0x4C, cellOut := Config.chip.letterRom[11] } ∧
    exec (.encLetterM f) s = .next { s with charIn := if f then 0x6D else 0x4D, cellOut := Config.chip.letterRom[12] } ∧
    exec (.encLetterN f) s = .next { s with charIn := if f then 0x6E else 0x4E, cellOut := Config.chip.letterRom[13] } ∧
    exec (.encLetterO f) s = .next { s with charIn := if f then 0x6F else 0x4F, cellOut := Config.chip.letterRom[14] } ∧
    exec (.encLetterP f) s = .next { s with charIn := if f then 0x70 else 0x50, cellOut := Config.chip.letterRom[15] } ∧
    exec (.encLetterQ f) s = .next { s with charIn := if f then 0x71 else 0x51, cellOut := Config.chip.letterRom[16] } ∧
    exec (.encLetterR f) s = .next { s with charIn := if f then 0x72 else 0x52, cellOut := Config.chip.letterRom[17] } ∧
    exec (.encLetterS f) s = .next { s with charIn := if f then 0x73 else 0x53, cellOut := Config.chip.letterRom[18] } ∧
    exec (.encLetterT f) s = .next { s with charIn := if f then 0x74 else 0x54, cellOut := Config.chip.letterRom[19] } ∧
    exec (.encLetterU f) s = .next { s with charIn := if f then 0x75 else 0x55, cellOut := Config.chip.letterRom[20] } ∧
    exec (.encLetterV f) s = .next { s with charIn := if f then 0x76 else 0x56, cellOut := Config.chip.letterRom[21] } ∧
    exec (.encLetterW f) s = .next { s with charIn := if f then 0x77 else 0x57, cellOut := Config.chip.letterRom[22] } ∧
    exec (.encLetterX f) s = .next { s with charIn := if f then 0x78 else 0x58, cellOut := Config.chip.letterRom[23] } ∧
    exec (.encLetterY f) s = .next { s with charIn := if f then 0x79 else 0x59, cellOut := Config.chip.letterRom[24] } ∧
    exec (.encLetterZ f) s = .next { s with charIn := if f then 0x7A else 0x5A, cellOut := Config.chip.letterRom[25] }

/-- The 10 digit rows of R42. That a row is an instruction is the model's choice (notes/assumptions/11.md). -/
def Obligations.DigitRowsGiveDigitRom : Prop :=
  ∀ s : State,
    exec .encDigit0 s = .next { s with charIn := 0x30, cellOut := Config.chip.digitRom[0] } ∧
    exec .encDigit1 s = .next { s with charIn := 0x31, cellOut := Config.chip.digitRom[1] } ∧
    exec .encDigit2 s = .next { s with charIn := 0x32, cellOut := Config.chip.digitRom[2] } ∧
    exec .encDigit3 s = .next { s with charIn := 0x33, cellOut := Config.chip.digitRom[3] } ∧
    exec .encDigit4 s = .next { s with charIn := 0x34, cellOut := Config.chip.digitRom[4] } ∧
    exec .encDigit5 s = .next { s with charIn := 0x35, cellOut := Config.chip.digitRom[5] } ∧
    exec .encDigit6 s = .next { s with charIn := 0x36, cellOut := Config.chip.digitRom[6] } ∧
    exec .encDigit7 s = .next { s with charIn := 0x37, cellOut := Config.chip.digitRom[7] } ∧
    exec .encDigit8 s = .next { s with charIn := 0x38, cellOut := Config.chip.digitRom[8] } ∧
    exec .encDigit9 s = .next { s with charIn := 0x39, cellOut := Config.chip.digitRom[9] }

/-- The 5 symbol rows of R42 with the constants of R50. That a row is an instruction is the model's choice (notes/assumptions/11.md). -/
def Obligations.SymbolRowsGiveTheirConstants : Prop :=
  ∀ s : State,
    exec .encSymSpace s = .next { s with charIn := 0x20, cellOut := 0x00 } ∧
    exec .encSymPeriod s = .next { s with charIn := 0x2E, cellOut := 0x13 } ∧
    exec .encSymComma s = .next { s with charIn := 0x2C, cellOut := 0x10 } ∧
    exec .encSymQuestion s = .next { s with charIn := 0x3F, cellOut := 0x19 } ∧
    exec .encSymExclam s = .next { s with charIn := 0x21, cellOut := 0x1A }

/-- The fallback row of R42 (R51). That a row is an instruction is the model's choice (notes/assumptions/11.md). -/
def Obligations.EncFallbackGivesBlank : Prop :=
  ∀ (c : CharWord) (s : State), (Instr.encFallback c).wellFormed = true →
    exec (.encFallback c) s = .next { s with charIn := c, cellOut := 0x00 }

/-- R42 (the opcode map of ENCODE) against R46 (the algorithm): two designs, one function. -/
def Obligations.CharRowsAgreeWithEncode : Prop :=
  ∀ c : CharWord, ∃ i : Instr, decode ⟨.decodeChar8, [c]⟩ = .ok i ∧ i.wellFormed = true ∧
    ∀ s : State, exec i s = exec (.encode c) s

/-- R33 and R51: the regions are disjoint, cover all 256 values, and have these sizes. -/
def Obligations.CharacterMapPartition : Prop :=
  let codes : List CharWord := (List.range 256).map (BitVec.ofNat 8)
  let letter : CharWord → Bool := fun c => (letterIndex (caseFold c)).isSome
  let digit : CharWord → Bool := fun c => (digitIndex (caseFold c)).isSome
  let sym : CharWord → Bool := fun c => (symbolCell Config.chip (caseFold c)).isSome
  (codes.filter letter).length = 52 ∧ (codes.filter digit).length = 10 ∧ (codes.filter sym).length = 5 ∧
  (codes.filter isFallbackCode).length = 189 ∧
  ∀ c ∈ codes, ([letter c, digit c, sym c, isFallbackCode c].filter id).length = 1

/-- R42: the rows are pairwise disjoint except for the last (and R43). -/
def Obligations.DecodeRowsAreDisjoint : Prop :=
  ∀ w : BitVec 8, (charRows.filter (fun r => r.covers w)).length ≤ 1 ∧
    (idxRows.filter (fun r => r.covers w)).length ≤ 1

/-- R56 (a) to (e), for every admissible configuration. -/
def Obligations.EncodePropertiesOfEveryConfiguration : Prop :=
  (∀ cfg : Config, cfg.Admissible →
    (∀ k : Fin 26, encodeCell cfg (BitVec.ofNat 8 (0x41 + k.val)) = cfg.letterRom[k] ∧
      encodeCell cfg (BitVec.ofNat 8 (0x61 + k.val)) = cfg.letterRom[k]) ∧
    (∀ c d : CharWord, 0x61 ≤ c.toNat → c.toNat ≤ 0x7A → 0x61 ≤ d.toNat → d.toNat ≤ 0x7A →
      encodeCell cfg c = encodeCell cfg d → c = d) ∧
    (∀ c : CharWord, isFallbackCode c = true ∨ c = 0x20 → encodeCell cfg c = 0x00) ∧
    (190 ≤ ((List.range 256).filter (fun n => encodeCell cfg (BitVec.ofNat 8 n) = 0x00)).length) ∧
    (cfg.LetterNonzero → ∀ k : Fin 26, encodeCell cfg (BitVec.ofNat 8 (0x61 + k.val)) ≠ 0x00)) ∧
  (∃ cfg : Config, cfg.Admissible ∧ ∃ (j : Fin 10) (k : Fin 26), cfg.digitRom[j] = cfg.letterRom[k]) ∧
  (∃ cfg : Config, cfg.Admissible ∧ ∃ k : Fin 26, cfg.letterRom[k] = cfg.symPeriod) ∧
  (∃ cfg : Config, cfg.Admissible ∧ ∃ k : Fin 26, encodeCell cfg (BitVec.ofNat 8 (0x61 + k.val)) = 0x00)

/-- R41 (a), (b) and R38. -/
def Obligations.IndicesComeFromOperandBits : Prop :=
  (∀ (c : CharWord) (k : Fin 26), letterIndex (caseFold c) = some k →
      k.val + 1 = ((caseFold c).extractLsb' 0 5).toNat) ∧
  (∀ (c : CharWord) (k : Fin 10), digitIndex c = some k → k.val = (c.extractLsb' 0 4).toNat) ∧
  (∀ i : IdxWord, (i.toNat ≤ 7 ↔ idxOver i = 0) ∧
    (idxOver i = 0 → (pulseIndex i).map Fin.val = some (idxSub i).toNat))

/-- R58, R60: the complete rule of PWLOOKUP and its out-of-range arm. -/
def Obligations.PwlookupGivesTableEntry : Prop :=
  Config.chip.pwRom[0] = 844 ∧ ∀ (i : IdxWord) (s : State),
    exec (.pwlookup i) s =
      .next { s with idxIn := i, pwOut := if h : i.toNat ≤ 7 then Config.chip.pwRom[i.toNat] else 844 }

/-- The in-range rows of R43 (R59). That a row is an instruction is the model's choice (notes/assumptions/11.md). -/
def Obligations.PulseRowsGivePwRom : Prop :=
  ∀ s : State,
    exec .pwl0 s = .next { s with idxIn := 0x00, pwOut := 844 } ∧
    exec .pwl1 s = .next { s with idxIn := 0x01, pwOut := Config.chip.pwRom[1] } ∧
    exec .pwl2 s = .next { s with idxIn := 0x02, pwOut := Config.chip.pwRom[2] } ∧
    exec .pwl3 s = .next { s with idxIn := 0x03, pwOut := Config.chip.pwRom[3] } ∧
    exec .pwl4 s = .next { s with idxIn := 0x04, pwOut := Config.chip.pwRom[4] } ∧
    exec .pwl5 s = .next { s with idxIn := 0x05, pwOut := Config.chip.pwRom[5] } ∧
    exec .pwl6 s = .next { s with idxIn := 0x06, pwOut := Config.chip.pwRom[6] } ∧
    exec .pwl7 s = .next { s with idxIn := 0x07, pwOut := 2094 }

/-- The out-of-range row of R43 (R60). That a row is an instruction is the model's choice (notes/assumptions/11.md). -/
def Obligations.PwlFallbackGivesHome : Prop :=
  ∀ (i : IdxWord) (s : State), (Instr.pwlFallback i).wellFormed = true →
    exec (.pwlFallback i) s = .next { s with idxIn := i, pwOut := 844 }

/-- R43 (the opcode map of PWLOOKUP) against R58. -/
def Obligations.IdxRowsAgreeWithPwlookup : Prop :=
  ∀ j : IdxWord, ∃ i : Instr, decode ⟨.decodeIdx8, [j]⟩ = .ok i ∧ i.wellFormed = true ∧
    ∀ s : State, exec i s = exec (.pwlookup j) s

/-- R63 (a) to (f), for every admissible configuration. (f) is about `PWM_PERIOD_US` = 20000, so it alone is stated with
the PWM constants that R6 and D6 decide. -/
def Obligations.PulseWidthPropertiesOfEveryConfiguration : Prop :=
  ∀ cfg : Config, cfg.Admissible →
    (∀ i : IdxWord, 844 ≤ (pulseWidth cfg i).toNat ∧ (pulseWidth cfg i).toNat ≤ 2094 ∧
      ∃ k : Fin 8, pulseWidth cfg i = cfg.pwRom[k]) ∧
    (∀ k : Fin 8, ∃ i : IdxWord, pulseWidth cfg i = cfg.pwRom[k]) ∧
    (∀ n : Nat, n ≤ 6 →
      (pulseWidth cfg (BitVec.ofNat 8 n)).toNat < (pulseWidth cfg (BitVec.ofNat 8 (n + 1))).toNat) ∧
    (pulseWidth cfg 7 = 2094 ∧ pulseWidth cfg 8 = 844 ∧ pulseWidth cfg 255 = 844) ∧
    (∀ i : IdxWord, pulseWidth cfg i = 844 ↔ i = 0 ∨ 7 < i.toNat) ∧
    (cfg.DecidedPwm → ∀ i : IdxWord, (pulseWidth cfg i).toNat ≤ cfg.pwmPeriodUs ∧
      dutyQuotient cfg (pulseWidth cfg i).toNat ≤ cfg.maxDuty)

/-- R65: the formula. -/
def Obligations.DutyGivesQuotient : Prop :=
  (Config.chip.maxDuty = 2 ^ Config.chip.pwmResolution - 1 ∧ Config.chip.pwmResolution = 16 ∧
    Config.chip.pwmPeriodUs = 20000) ∧
  ∀ (p : PulseWord) (s : State) (u : ScalerPorts), s.scaler = some u → ∃ d : DutyWord,
    exec (.duty p) s = .next { s with scaler := some ⟨p, d⟩ } ∧ d.toNat = p.toNat * 65535 / 20000

/-- R64: when `SCALER_PRESENT` is false there is no DUTY operation. The refusal is the model's choice (notes/assumptions/3.md). -/
def Obligations.DutyAbsentIsRefused : Prop :=
  ∀ (p : PulseWord) (s : State), s.scaler = none → exec (.duty p) s = .refused .scalerAbsent

/-- R69 and R40: no bounds validation; the result is in the nominal range exactly when p <= PWM_PERIOD_US. -/
def Obligations.DutyNominalExactlyUpToPeriod : Prop :=
  ∀ (p : PulseWord) (s : State), s.scaler.isSome = true → ∃ (t : State) (d : DutyWord),
    exec (.duty p) s = .next t ∧ t.dutyOut = some d ∧ (t.DutyNominal ↔ CallerKeepsPeriod p) ∧
    (CallerKeepsPeriod p → dutyExcess d = 0) ∧ (p = 20001 → d = 65538)

/-- R68: the width of the result (and R67, of the product). -/
def Obligations.DutyWidthsNeverOverflow : Prop :=
  (∀ p : PulseWord, p.toNat * Config.chip.maxDuty < 2 ^ 32 ∧ dutyQuotient Config.chip p.toNat ≤ 214741 ∧
      (dutyValue Config.chip p).toNat = dutyQuotient Config.chip p.toNat ∧
      (dutyValue Config.chip p).toNat = p.toNat * 65535 / 20000) ∧
    214741 < 2 ^ 18 ∧ dutyValue Config.chip 65535 = 214741 ∧
    (∃ p : PulseWord, (dutyValue Config.chip p).toNat ≠ min (p.toNat * 65535 / 20000) 65535 ∧
      (dutyValue Config.chip p).toNat ≠ p.toNat * 65535 / 20000 % 2 ^ 16)

/-- R70: the endpoints. -/
def Obligations.DutyEndpoints : Prop :=
  (∀ cfg : Config, cfg.Admissible → dutyQuotient cfg 0 = 0 ∧ dutyQuotient cfg cfg.pwmPeriodUs = cfg.maxDuty ∧
      cfg.pwmPeriodUs * cfg.maxDuty % cfg.pwmPeriodUs = 0) ∧
    dutyValue Config.chip 0 = 0 ∧ dutyValue Config.chip 20000 = 65535

/-- R71: monotonicity and step size. -/
def Obligations.DutyMonotoneWithSteps : Prop :=
  (∀ cfg : Config, cfg.Admissible → ∀ p q : Nat, p ≤ q → dutyQuotient cfg p ≤ dutyQuotient cfg q) ∧
    (∀ p q : PulseWord, q.toNat = p.toNat + 1 →
      (dutyValue Config.chip q).toNat = (dutyValue Config.chip p).toNat + 3 ∨
      (dutyValue Config.chip q).toNat = (dutyValue Config.chip p).toNat + 4) ∧
    (∀ p q : PulseWord, p.toNat < q.toNat → (dutyValue Config.chip p).toNat < (dutyValue Config.chip q).toNat) ∧
    dutyValue Config.chip 1 = 3 ∧ dutyValue Config.chip 2 = 6 ∧ dutyValue Config.chip 3 = 9 ∧
    dutyValue Config.chip 4 = 13

/-- R100, R63 (f): a caller that feeds DUTY only with results of PWLOOKUP meets its one obligation. -/
def Obligations.LookupThenDutyStaysNominal : Prop :=
  ∀ (i : IdxWord) (s : State), s.scaler.isSome = true → ∃ t u : State,
    exec (.pwlookup i) s = .next t ∧ CallerKeepsPeriod t.pwOut ∧ exec (.duty t.pwOut) t = .next u ∧
    u.DutyNominal

/-- R74: SPLIT. The fields that hold its operand and results are the model's own (notes/assumptions/10.md). -/
def Obligations.SplitGivesTheTwoHalves : Prop :=
  ∀ (v : CellCode) (s : State), ∃ hi lo : SubPattern,
    exec (.split v) s = .next { s with splitIn := v, splitHi := hi, splitLo := lo } ∧
    v.toNat = 8 * hi.toNat + lo.toNat ∧
    (∀ j : Nat, j < 3 → hi.getLsbD j = v.getLsbD (j + 3) ∧ lo.getLsbD j = v.getLsbD j) ∧
    (halfIndex hi).toNat = hi.toNat ∧ (halfIndex lo).toNat = lo.toNat ∧ hi.toNat ≤ 7 ∧ lo.toNat ≤ 7

/-- R27, R37: dot position i is bit 5 - i. -/
def Obligations.HalvesAreDotColumns : Prop :=
  ∀ (v : CellCode) (i : Fin 3),
    dotRaised v ⟨i.val, by omega⟩ = (cellHi v).getLsbD (2 - i.val) ∧
    dotRaised v ⟨i.val + 3, by omega⟩ = (cellLo v).getLsbD (2 - i.val)

/-- R75: the pipeline for one character, run operation by operation. That the units are run one after the other is the
model's choice (notes/assumptions/15.md), and so is the shape that a block without the DUTY unit has
(notes/assumptions/3.md). -/
def Obligations.PipelineByOperationsIsRenderChar : Prop :=
  ∀ (c : CharWord) (s : State), ∃ t : State,
    renderByOperations c s = .next (t, renderChar s.config c) ∧
    t.requests = s.requests ∧ t.scaler.isSome = s.scaler.isSome

/-- R76 (a) to (e), for every admissible configuration, with and without the DUTY unit. The numbers 2765 and 6861 of (b)
and (c) are those of the PWM constants that R6 and D6 decide, and the two duties are there where the unit is (R64, R75). -/
def Obligations.RenderPropertiesOfEveryConfiguration : Prop :=
  ∀ cfg : Config, cfg.Admissible →
    (∀ c : CharWord, ∃ j k : Fin 8, renderPulses cfg c = (cfg.pwRom[j], cfg.pwRom[k]) ∧
      844 ≤ (cfg.pwRom[j]).toNat ∧ (cfg.pwRom[j]).toNat ≤ 2094 ∧
      844 ≤ (cfg.pwRom[k]).toNat ∧ (cfg.pwRom[k]).toNat ≤ 2094) ∧
    (∀ c : CharWord, isFallbackCode c = true ∨ c = 0x20 → renderPulses cfg c = (844, 844)) ∧
    (splitCell (encodeCell cfg 0x20) = (0, 0) ∧ splitCell (encodeCell cfg 0x2E) = (2, 3) ∧
      splitCell (encodeCell cfg 0x2C) = (2, 0) ∧ splitCell (encodeCell cfg 0x3F) = (3, 1) ∧
      splitCell (encodeCell cfg 0x21) = (3, 2)) ∧
    (∀ k : Fin 26,
      renderPulses cfg (BitVec.ofNat 8 (0x41 + k.val)) = renderPulses cfg (BitVec.ofNat 8 (0x61 + k.val)) ∧
      renderChar cfg (BitVec.ofNat 8 (0x41 + k.val)) = renderChar cfg (BitVec.ofNat 8 (0x61 + k.val))) ∧
    (cfg.scalerPresent = false → ∀ c : CharWord,
      renderChar cfg c = .pulses (renderPulses cfg c).1 (renderPulses cfg c).2) ∧
    (cfg.scalerPresent = true → ∀ c : CharWord, ∃ dh dl : DutyWord, renderChar cfg c = .duties dh dl ∧
      dh = dutyValue cfg (renderPulses cfg c).1 ∧ dl = dutyValue cfg (renderPulses cfg c).2) ∧
    (cfg.DecidedPwm →
      (dutyValue cfg 844 = 2765 ∧ dutyValue cfg 2094 = 6861) ∧
      (∀ c : CharWord,
        2765 ≤ (dutyValue cfg (renderPulses cfg c).1).toNat ∧ (dutyValue cfg (renderPulses cfg c).1).toNat ≤ 6861 ∧
        2765 ≤ (dutyValue cfg (renderPulses cfg c).2).toNat ∧ (dutyValue cfg (renderPulses cfg c).2).toNat ≤ 6861) ∧
      (cfg.scalerPresent = true → ∀ c : CharWord, isFallbackCode c = true ∨ c = 0x20 →
        renderChar cfg c = .duties 2765 2765))

/-- R83, R99: one outcome, a result, for any well-typed operand. -/
def Obligations.ExecAlwaysCompletes : Prop :=
  ∀ (i : Instr) (s : State), UnitPresent i s → ∃ t : State, exec i s = .next t

/-- R16, R30: a unit has its own port pair, and nothing else is written. -/
def Obligations.InstructionWritesOnlyItsUnit : Prop :=
  ∀ (i : Instr) (s t : State), exec i s = .next t →
    (instrUnit i = .encoder → t = { s with charIn := t.charIn, cellOut := t.cellOut }) ∧
    (instrUnit i = .lookup → t = { s with idxIn := t.idxIn, pwOut := t.pwOut }) ∧
    (instrUnit i = .scaler → t = { s with scaler := t.scaler } ∧ s.scaler.isSome = true ∧ t.scaler.isSome = true) ∧
    (instrUnit i = .caller → t = { s with splitIn := t.splitIn, splitHi := t.splitHi, splitLo := t.splitLo })

/-- R101: the units are independent. That they are run one after the other is the model's choice (notes/assumptions/15.md). -/
def Obligations.OperationsOfDifferentUnitsCommute : Prop :=
  ∀ (i j : Instr) (s : State), instrUnit i ≠ instrUnit j →
    andThen (exec i s) (exec j) = andThen (exec j s) (exec i)

/-- R17: idempotence. -/
def Obligations.InstructionsAreIdempotent : Prop :=
  ∀ (i : Instr) (s t : State), exec i s = .next t → exec i t = .next t

/-- The step around exec. The list of requests is the model's own (notes/assumptions/6.md). -/
def Obligations.StepRunsTheDecodedInstruction : Prop :=
  ∀ (s : State) (r : Request) (rest : List Request) (i : Instr), s.requests = r :: rest → decode r = .ok i →
    i.wellFormed = true ∧ step s = exec i { s with requests := rest }

/-- The idle step is the model's choice (notes/assumptions/7.md). -/
def Obligations.StepWithoutRequestChangesNothing : Prop :=
  ∀ s : State, s.requests = [] → step s = .next s

/-- The refusal is the model's choice (notes/assumptions/13.md). -/
def Obligations.StepRefusesUndecodableRequest : Prop :=
  ∀ (s : State) (r : Request) (rest : List Request) (why : Reject), s.requests = r :: rest → decode r = .error why →
    step s = .refused (.undecodable why)

/-- The convention for a bare word is the model's choice (notes/assumptions/9.md). -/
def Obligations.TableWordRunsAsNextInstruction : Prop :=
  ∀ (s : State) (nbits w : Nat) (i : Instr), decodeTableWord nbits w = some i →
    i.wellFormed = true ∧ step (s.withFetchWord nbits w) = exec i s

/-- R19. Operand ports at zero are the model's choice (notes/assumptions/4.md). -/
def Obligations.ResetPortsShowPowerUp : Prop :=
  State.reset = State.powerUp Config.chip ∧ State.reset.Coherent ∧ State.reset.PulseInRange ∧
    State.reset.DutyNominal

/-- R16: each result port carries, at all times, the function of its own operand port. -/
def Obligations.StepKeepsResultPortsCoherent : Prop :=
  ∀ s t : State, s.Coherent → step s = .next t → t.Coherent

/-- R63 (a), R100, as an invariant of the machine. -/
def Obligations.StepKeepsPulseInRange : Prop :=
  ∀ s t : State, s.PulseInRange → step s = .next t → t.PulseInRange

/-- What a step does to the requests and to the unit's presence: the oldest request, where there is one, is gone and the
later ones wait (R97: nothing further of an operation remains), and the DUTY unit is neither added nor removed (R64: its
presence is a constant of the block). That requests wait in a list (notes/assumptions/6.md), that a step without one
changes nothing (notes/assumptions/7.md) and that presence is a shape of State (notes/assumptions/3.md) are the model's
choices. -/
def Obligations.StepTakesOldestRequestIfAny : Prop :=
  ∀ s t : State, step s = .next t →
    (∀ (r : Request) (rest : List Request), s.requests = r :: rest → t.requests = rest) ∧
    (s.requests = [] → t = s) ∧
    t.scaler.isSome = s.scaler.isSome

/-- R10, R17, R99: a result depends on its operand and cfg alone, and no operation is ever held. With or without the DUTY
unit: only operations of units the block has are issued (R64). The list of requests that one run of steps goes through is
the model's own (notes/assumptions/6.md). -/
def Obligations.ResultsIgnoreHistory : Prop :=
  ∀ (before : List Request) (i : Instr) (s : State), i.wellFormed = true → UnitPresent i s →
    (∀ r ∈ before, ∃ j : Instr, decode r = .ok j ∧ UnitPresent j s) → ∃ t : State,
      Host.Core.run Sys2Proof.core (before.length + 1) { s with requests := before ++ [encode i] } = .next t ∧
      t.requests = [] ∧
      (∀ c, i = .encode c → t.charIn = c ∧ t.cellOut = encodeCell Config.chip c) ∧
      (∀ j, i = .pwlookup j → t.idxIn = j ∧ t.pwOut = pulseWidth Config.chip j) ∧
      (∀ p, i = .duty p → t.dutyOut = some (dutyValue Config.chip p))

/-- R78: one ENCODE per character, in string order; R80: no other field of the record matters. The list is the model's own (notes/assumptions/6.md). -/
def Obligations.TextCellsArePointwise : Prop :=
  ∀ (r : CommandRecord) (s : State) (n : Nat), n < r.text.length → ∃ t : State,
    Host.Core.run Sys2Proof.core (n + 1) { s with requests := r.requests } = .next t ∧
    (textCells Config.chip r.text)[n]? = some t.cellOut ∧ r.text[n]? = some t.charIn ∧
    t.requests = r.requests.drop (n + 1)

/-- R34, R42, R43, opcode_table.json: decode and encode agree. -/
def Obligations.DecodeOfEncode : Prop :=
  ∀ i : Instr, i.wellFormed = true → decode (encode i) = .ok i

/-- The other direction of the round trip: no two requests share an instruction. -/
def Obligations.EncodeOfDecode : Prop :=
  ∀ (r : Request) (i : Instr), decode r = .ok i → i.wellFormed = true ∧ encode i = r

/-- R44: a decoder for this block never returns "invalid". The bytes are the model's choice (notes/assumptions/8.md). -/
def Obligations.DecodeRejectsOnlyMalformedRequests : Prop :=
  ∀ r : Request, (∃ i : Instr, decode r = .ok i) ↔
    r.bytes.length = r.format.byteCount ∧ (r.format = .helperCell6 → ∀ b ∈ r.bytes, b.toNat < 64)

/-- Words of opcode_table.json (R34, R37, R42, R43), written out bit by bit. Which row a bare word is, is the model's
choice (notes/assumptions/9.md): the number of bits picks the port, and the 8-bit word 0x07 is read as PWL.7, though the
same byte on char_in is ENC.FALLBACK (R42). That a request is bytes with a named format is the model's too
(notes/assumptions/8.md). -/
def Obligations.DecodeSampleWords : Prop :=
  decodeTableWord 8 0b01000001 = some (.encLetterA false) ∧ decodeTableWord 8 0b01111010 = some (.encLetterZ true) ∧
  decodeTableWord 8 0b00110101 = some .encDigit5 ∧ decodeTableWord 8 0b00101110 = some .encSymPeriod ∧
  decodeTableWord 8 0b10000000 = some (.encFallback 0x80) ∧ decodeTableWord 8 0b00000111 = some .pwl7 ∧
  decodeTableWord 16 0b0100111000100000 = some (.duty 20000) ∧
  decode ⟨.operationChar8, [0b01101000]⟩ = .ok (.encode 0x68) ∧
  decode ⟨.operationIdx8, [0b00001111]⟩ = .ok (.pwlookup 15) ∧
  decode ⟨.helperCell6, [0b011010]⟩ = .ok (.split 0x1A)
end

