-- ==== Sys2Proof/Laws/Config.lean ====
section
/-! SUPPORT. The reference configuration and the modelled one are admissible, and the modelled one keeps every admissible
table possible (spec 00_scope.md R7, R8). -/

namespace Sys2Proof

theorem ref_admissible : Config.ref.Admissible := by decide +revert

theorem ref_letterNonzero : Config.ref.LetterNonzero := by decide

@[simp] theorem chip_symSpace : Config.chip.symSpace = 0x00 := rfl
@[simp] theorem chip_symPeriod : Config.chip.symPeriod = 0x13 := rfl
@[simp] theorem chip_symComma : Config.chip.symComma = 0x10 := rfl
@[simp] theorem chip_symQuestion : Config.chip.symQuestion = 0x19 := rfl
@[simp] theorem chip_symExclam : Config.chip.symExclam = 0x1A := rfl
@[simp] theorem chip_cellBlank : Config.chip.cellBlank = 0x00 := rfl
@[simp] theorem chip_pwmResolution : Config.chip.pwmResolution = 16 := rfl
@[simp] theorem chip_pwmPeriodUs : Config.chip.pwmPeriodUs = 20000 := rfl
@[simp] theorem chip_scalerPresent : Config.chip.scalerPresent = true := rfl
@[simp] theorem chip_maxDuty : Config.chip.maxDuty = 65535 := rfl
@[simp] theorem chip_pwRom_zero : Config.chip.pwRom[0] = 844 := rfl
@[simp] theorem chip_pwRom_seven : Config.chip.pwRom[7] = 2094 := rfl

theorem chip_decidedPwm : Config.chip.DecidedPwm := ⟨rfl, rfl⟩

theorem chip_letterDistinct : Config.chip.LetterDistinct := by
  show DistinctCells (if DistinctCells Config.openLetterRom then Config.openLetterRom else refLetterRom)
  split
  · assumption
  · exact ref_admissible.2.1

theorem chip_pwMono : Config.chip.PwMono := by
  show RisingPulses (pulseTable (if RisingPulses (pulseTable Config.openPulses) then Config.openPulses else refPulses))
  split
  · assumption
  · exact ref_admissible.2.2.2.2.2.1

theorem chip_admissible : Config.chip.Admissible :=
  ⟨fun k => Nat.le_of_lt_succ (Config.chip.letterRom[k]).isLt, chip_letterDistinct,
    fun k => Nat.le_of_lt_succ (Config.chip.digitRom[k]).isLt, by decide, ⟨rfl, rfl⟩, chip_pwMono,
    fun i => (Config.chip.pwRom[i]).isLt, by decide⟩

/-- An OPEN letter table that R7 allows is the block's letter table as it is. -/
theorem chip_letterRom_of_distinct (h : DistinctCells Config.openLetterRom) :
    Config.chip.letterRom = Config.openLetterRom := if_pos h

/-- OPEN pulse widths that R7 allows are the block's pulse widths as they are. -/
theorem chip_pwRom_of_rising (h : RisingPulses (pulseTable Config.openPulses)) :
    Config.chip.pwRom = pulseTable Config.openPulses := congrArg pulseTable (if_pos h)

end Sys2Proof
end

