-- ==== Sys2Proof/Laws/Decode.lean ====
section
/-! SUPPORT. What the parts of the decoder can answer, said once. -/

namespace Sys2Proof

theorem oneByte_eq_ok {k : Byte → Except Reject Instr} {bytes : List Byte} {i : Instr} :
    oneByte k bytes = .ok i ↔ ∃ b, bytes = [b] ∧ k b = .ok i := by
  unfold oneByte
  split <;> simp_all

theorem twoBytes_eq_ok {k : BitVec 16 → Except Reject Instr} {bytes : List Byte} {i : Instr} :
    twoBytes k bytes = .ok i ↔ ∃ lo hi, bytes = [lo, hi] ∧ k (hi ++ lo) = .ok i := by
  unfold twoBytes
  split <;> simp_all

theorem decodeCell_eq_ok {b : Byte} {i : Instr} :
    decodeCell b = .ok i ↔ b.toNat < 64 ∧ i = .split (b.setWidth 6) := by
  unfold decodeCell
  split <;> simp_all [eq_comm]

/-- The value of two bytes joined, the first in the upper half. -/
theorem toNat_append_bytes (hi lo : Byte) : (hi ++ lo : BitVec 16).toNat = hi.toNat * 256 + lo.toNat := by
  have h := BitVec.toNat_append hi lo
  rw [Nat.shiftLeft_eq, Nat.mul_comm, ← Nat.two_pow_add_eq_or_of_lt lo.isLt] at h
  rw [h]
  omega

end Sys2Proof
end

