-- ==== Sys2Proof/Laws/State.lean ====
section
/-! SUPPORT. One lemma per field of State per update. -/

namespace Sys2Proof.Machine

@[simp] theorem State.driveChar_charIn (s : State) (c : CharWord) (v : CellCode) :
    (s.driveChar c v).charIn = c := rfl

@[simp] theorem State.driveChar_cellOut (s : State) (c : CharWord) (v : CellCode) :
    (s.driveChar c v).cellOut = v := rfl

@[simp] theorem State.driveChar_idxIn (s : State) (c : CharWord) (v : CellCode) :
    (s.driveChar c v).idxIn = s.idxIn := rfl

@[simp] theorem State.driveChar_pwOut (s : State) (c : CharWord) (v : CellCode) :
    (s.driveChar c v).pwOut = s.pwOut := rfl

@[simp] theorem State.driveChar_scaler (s : State) (c : CharWord) (v : CellCode) :
    (s.driveChar c v).scaler = s.scaler := rfl

@[simp] theorem State.driveChar_splitIn (s : State) (c : CharWord) (v : CellCode) :
    (s.driveChar c v).splitIn = s.splitIn := rfl

@[simp] theorem State.driveChar_splitHi (s : State) (c : CharWord) (v : CellCode) :
    (s.driveChar c v).splitHi = s.splitHi := rfl

@[simp] theorem State.driveChar_splitLo (s : State) (c : CharWord) (v : CellCode) :
    (s.driveChar c v).splitLo = s.splitLo := rfl

@[simp] theorem State.driveChar_requests (s : State) (c : CharWord) (v : CellCode) :
    (s.driveChar c v).requests = s.requests := rfl

@[simp] theorem State.driveIdx_charIn (s : State) (i : IdxWord) (p : PulseWord) :
    (s.driveIdx i p).charIn = s.charIn := rfl

@[simp] theorem State.driveIdx_cellOut (s : State) (i : IdxWord) (p : PulseWord) :
    (s.driveIdx i p).cellOut = s.cellOut := rfl

@[simp] theorem State.driveIdx_idxIn (s : State) (i : IdxWord) (p : PulseWord) :
    (s.driveIdx i p).idxIn = i := rfl

@[simp] theorem State.driveIdx_pwOut (s : State) (i : IdxWord) (p : PulseWord) :
    (s.driveIdx i p).pwOut = p := rfl

@[simp] theorem State.driveIdx_scaler (s : State) (i : IdxWord) (p : PulseWord) :
    (s.driveIdx i p).scaler = s.scaler := rfl

@[simp] theorem State.driveIdx_splitIn (s : State) (i : IdxWord) (p : PulseWord) :
    (s.driveIdx i p).splitIn = s.splitIn := rfl

@[simp] theorem State.driveIdx_splitHi (s : State) (i : IdxWord) (p : PulseWord) :
    (s.driveIdx i p).splitHi = s.splitHi := rfl

@[simp] theorem State.driveIdx_splitLo (s : State) (i : IdxWord) (p : PulseWord) :
    (s.driveIdx i p).splitLo = s.splitLo := rfl

@[simp] theorem State.driveIdx_requests (s : State) (i : IdxWord) (p : PulseWord) :
    (s.driveIdx i p).requests = s.requests := rfl

@[simp] theorem State.driveScaler_charIn (s : State) (p : PulseWord) (d : DutyWord) :
    (s.driveScaler p d).charIn = s.charIn := rfl

@[simp] theorem State.driveScaler_cellOut (s : State) (p : PulseWord) (d : DutyWord) :
    (s.driveScaler p d).cellOut = s.cellOut := rfl

@[simp] theorem State.driveScaler_idxIn (s : State) (p : PulseWord) (d : DutyWord) :
    (s.driveScaler p d).idxIn = s.idxIn := rfl

@[simp] theorem State.driveScaler_pwOut (s : State) (p : PulseWord) (d : DutyWord) :
    (s.driveScaler p d).pwOut = s.pwOut := rfl

@[simp] theorem State.driveScaler_scaler (s : State) (p : PulseWord) (d : DutyWord) :
    (s.driveScaler p d).scaler = some ⟨p, d⟩ := rfl

@[simp] theorem State.driveScaler_splitIn (s : State) (p : PulseWord) (d : DutyWord) :
    (s.driveScaler p d).splitIn = s.splitIn := rfl

@[simp] theorem State.driveScaler_splitHi (s : State) (p : PulseWord) (d : DutyWord) :
    (s.driveScaler p d).splitHi = s.splitHi := rfl

@[simp] theorem State.driveScaler_splitLo (s : State) (p : PulseWord) (d : DutyWord) :
    (s.driveScaler p d).splitLo = s.splitLo := rfl

@[simp] theorem State.driveScaler_requests (s : State) (p : PulseWord) (d : DutyWord) :
    (s.driveScaler p d).requests = s.requests := rfl

@[simp] theorem State.driveSplit_charIn (s : State) (v : CellCode) :
    (s.driveSplit v).charIn = s.charIn := rfl

@[simp] theorem State.driveSplit_cellOut (s : State) (v : CellCode) :
    (s.driveSplit v).cellOut = s.cellOut := rfl

@[simp] theorem State.driveSplit_idxIn (s : State) (v : CellCode) :
    (s.driveSplit v).idxIn = s.idxIn := rfl

@[simp] theorem State.driveSplit_pwOut (s : State) (v : CellCode) :
    (s.driveSplit v).pwOut = s.pwOut := rfl

@[simp] theorem State.driveSplit_scaler (s : State) (v : CellCode) :
    (s.driveSplit v).scaler = s.scaler := rfl

@[simp] theorem State.driveSplit_splitIn (s : State) (v : CellCode) :
    (s.driveSplit v).splitIn = v := rfl

@[simp] theorem State.driveSplit_splitHi (s : State) (v : CellCode) :
    (s.driveSplit v).splitHi = cellHi v := rfl

@[simp] theorem State.driveSplit_splitLo (s : State) (v : CellCode) :
    (s.driveSplit v).splitLo = cellLo v := rfl

@[simp] theorem State.driveSplit_requests (s : State) (v : CellCode) :
    (s.driveSplit v).requests = s.requests := rfl

@[simp] theorem State.withRequests_charIn (s : State) (rs : List Request) :
    (s.withRequests rs).charIn = s.charIn := rfl

@[simp] theorem State.withRequests_cellOut (s : State) (rs : List Request) :
    (s.withRequests rs).cellOut = s.cellOut := rfl

@[simp] theorem State.withRequests_idxIn (s : State) (rs : List Request) :
    (s.withRequests rs).idxIn = s.idxIn := rfl

@[simp] theorem State.withRequests_pwOut (s : State) (rs : List Request) :
    (s.withRequests rs).pwOut = s.pwOut := rfl

@[simp] theorem State.withRequests_scaler (s : State) (rs : List Request) :
    (s.withRequests rs).scaler = s.scaler := rfl

@[simp] theorem State.withRequests_splitIn (s : State) (rs : List Request) :
    (s.withRequests rs).splitIn = s.splitIn := rfl

@[simp] theorem State.withRequests_splitHi (s : State) (rs : List Request) :
    (s.withRequests rs).splitHi = s.splitHi := rfl

@[simp] theorem State.withRequests_splitLo (s : State) (rs : List Request) :
    (s.withRequests rs).splitLo = s.splitLo := rfl

@[simp] theorem State.withRequests_requests (s : State) (rs : List Request) :
    (s.withRequests rs).requests = rs := rfl

@[simp] theorem State.dutyOut_driveScaler (s : State) (p : PulseWord) (d : DutyWord) :
    (s.driveScaler p d).dutyOut = some d := rfl

@[simp] theorem State.dutyOut_driveChar (s : State) (c : CharWord) (v : CellCode) :
    (s.driveChar c v).dutyOut = s.dutyOut := rfl

@[simp] theorem State.dutyOut_driveIdx (s : State) (i : IdxWord) (p : PulseWord) :
    (s.driveIdx i p).dutyOut = s.dutyOut := rfl

@[simp] theorem State.dutyOut_driveSplit (s : State) (v : CellCode) :
    (s.driveSplit v).dutyOut = s.dutyOut := rfl

theorem State.withRequests_requests_self (s : State) : s.withRequests s.requests = s := rfl

end Sys2Proof.Machine
end

