-- ==== Sys2Proof/Laws/Ops.lean ====
section
/-! SUPPORT. For each shared operation, what it can do, said once. -/

namespace Sys2Proof.Machine

open Host (Outcome)

theorem caseFold_toNat (c : CharWord) :
    (caseFold c).toNat = if 0x41 ≤ c.toNat ∧ c.toNat ≤ 0x5A then c.toNat + 0x20 else c.toNat := by
  have h41 : (0x41 : CharWord).toNat = 0x41 := rfl
  have h5A : (0x5A : CharWord).toNat = 0x5A := rfl
  have h20 : (0x20 : CharWord).toNat = 0x20 := rfl
  unfold caseFold
  simp only [BitVec.le_def, h41, h5A]
  split
  · rw [BitVec.toNat_add, h20]
    omega
  · rfl

theorem letterIndex_eq_some {c : CharWord} {k : Fin 26} :
    letterIndex c = some k ↔ c.toNat = 0x61 + k.val := by
  unfold letterIndex
  split <;> simp [Fin.ext_iff] <;> omega

theorem letterIndex_eq_none {c : CharWord} :
    letterIndex c = none ↔ ¬ (0x61 ≤ c.toNat ∧ c.toNat ≤ 0x7A) := by
  unfold letterIndex
  split <;> simp_all

theorem digitIndex_eq_some {c : CharWord} {k : Fin 10} :
    digitIndex c = some k ↔ c.toNat = 0x30 + k.val := by
  unfold digitIndex
  split <;> simp [Fin.ext_iff] <;> omega

theorem digitIndex_eq_none {c : CharWord} :
    digitIndex c = none ↔ ¬ (0x30 ≤ c.toNat ∧ c.toNat ≤ 0x39) := by
  unfold digitIndex
  split <;> simp_all

theorem pulseIndex_eq_some {i : IdxWord} {k : Fin 8} : pulseIndex i = some k ↔ i.toNat = k.val := by
  unfold pulseIndex
  split <;> simp [Fin.ext_iff]
  omega

theorem pulseIndex_eq_none {i : IdxWord} : pulseIndex i = none ↔ 7 < i.toNat := by
  unfold pulseIndex
  split <;> simp_all

/-- What `symbolCell` can answer. -/
theorem symbolCell_cases (cfg : Config) (c : CharWord) :
    (c = 0x20 ∧ symbolCell cfg c = some cfg.symSpace) ∨ (c = 0x2E ∧ symbolCell cfg c = some cfg.symPeriod) ∨
    (c = 0x2C ∧ symbolCell cfg c = some cfg.symComma) ∨ (c = 0x3F ∧ symbolCell cfg c = some cfg.symQuestion) ∨
    (c = 0x21 ∧ symbolCell cfg c = some cfg.symExclam) ∨
    ((c ≠ 0x20 ∧ c ≠ 0x2E ∧ c ≠ 0x2C ∧ c ≠ 0x3F ∧ c ≠ 0x21) ∧ symbolCell cfg c = none) := by
  unfold symbolCell
  repeat' split
  all_goals simp_all

/-- What `pulseWidth` can answer: the addressed entry, or entry 0. -/
theorem pulseWidth_cases (cfg : Config) (i : IdxWord) :
    (∃ k : Fin 8, i.toNat = k.val ∧ pulseWidth cfg i = cfg.pwRom[k]) ∨
    (7 < i.toNat ∧ pulseWidth cfg i = cfg.pwRom[0]) := by
  unfold pulseWidth
  rcases h : pulseIndex i with _ | k
  · exact .inr ⟨pulseIndex_eq_none.mp h, rfl⟩
  · exact .inl ⟨k, pulseIndex_eq_some.mp h, rfl⟩

/-- What `foldedCell`, and so `encodeCell` of the folded character, can answer: one arm of ENCODE
(40_character_encoder.md R52). -/
theorem foldedCell_cases (cfg : Config) (c : CharWord) :
    (∃ k : Fin 26, c.toNat = 0x61 + k.val ∧ foldedCell cfg c = cfg.letterRom[k]) ∨
    (∃ k : Fin 10, c.toNat = 0x30 + k.val ∧ foldedCell cfg c = cfg.digitRom[k]) ∨
    (¬ (0x61 ≤ c.toNat ∧ c.toNat ≤ 0x7A) ∧ ¬ (0x30 ≤ c.toNat ∧ c.toNat ≤ 0x39) ∧
      foldedCell cfg c = (symbolCell cfg c).getD cfg.cellBlank) := by
  unfold foldedCell
  rcases hl : letterIndex c with _ | k
  · rcases hd : digitIndex c with _ | k
    · refine .inr (.inr ⟨letterIndex_eq_none.mp hl, digitIndex_eq_none.mp hd, ?_⟩)
      dsimp only
      cases symbolCell cfg c <;> rfl
    · exact .inr (.inl ⟨k, digitIndex_eq_some.mp hd, rfl⟩)
  · exact .inl ⟨k, letterIndex_eq_some.mp hl, rfl⟩

/-- The value of `dutyValue`, where the quotient fits duty_out. -/
theorem dutyValue_toNat {cfg : Config} {p : PulseWord} (h : dutyQuotient cfg p.toNat < 2 ^ 18) :
    (dutyValue cfg p).toNat = dutyQuotient cfg p.toNat := by
  simpa [dutyValue] using h

theorem takeRequest_nil {s : State} (h : s.requests = []) : takeRequest s = none := by
  simp [takeRequest, h]

theorem takeRequest_cons {s : State} {r : Request} {rest : List Request} (h : s.requests = r :: rest) :
    takeRequest s = some (r, s.withRequests rest) := by
  simp [takeRequest, h]

@[simp] theorem andThen_next {α β : Type} (a : α) (k : α → Outcome β Fault Refusal) :
    andThen (.next a) k = k a := rfl

@[simp] theorem andThen_refused {α β : Type} (r : Refusal) (k : α → Outcome β Fault Refusal) :
    andThen (.refused r) k = .refused r := rfl

/-- The one way two operations in a row give a next state. -/
theorem andThen_eq_next {α β : Type} {o : Outcome α Fault Refusal} {k : α → Outcome β Fault Refusal} {b : β} :
    andThen o k = .next b ↔ ∃ a, o = .next a ∧ k a = .next b := by
  cases o <;> simp [andThen]

end Sys2Proof.Machine
end

