-- ==== Sys2Proof/Laws/Exec.lean ====
section
/-! SUPPORT. What an instruction can do, said once: it drives the port pair of its own unit. -/

namespace Sys2Proof.Machine

/-- The effect of every instruction but DUTY: it drives one port pair, that of its unit, with words that do not depend
on the state. -/
theorem exec_effect (i : Instr) :
    (instrUnit i = .encoder ∧ ∃ c v, ∀ s, exec i s = .next (s.driveChar c v)) ∨
    (instrUnit i = .lookup ∧ ∃ j p, ∀ s, exec i s = .next (s.driveIdx j p)) ∨
    (instrUnit i = .caller ∧ ∃ v, ∀ s, exec i s = .next (s.driveSplit v)) ∨
    (instrUnit i = .scaler ∧ ∃ p, i = .duty p) := by
  cases i
  case duty p => exact .inr (.inr (.inr ⟨rfl, p, rfl⟩))
  case split v => exact .inr (.inr (.inl ⟨rfl, v, fun _ => rfl⟩))
  all_goals
    first
      | exact .inl ⟨rfl, _, _, fun _ => rfl⟩
      | exact .inr (.inl ⟨rfl, _, _, fun _ => rfl⟩)

theorem exec_duty_of_present {p : PulseWord} {s : State} {u : ScalerPorts} (h : s.scaler = some u) :
    exec (.duty p) s = .next (s.driveScaler p (dutyValue Config.chip p)) := by
  simp [exec, execDuty, h]

/-- The step on a request that decodes. -/
theorem step_of_decode {s : State} {r : Request} {rest : List Request} {i : Instr}
    (hr : s.requests = r :: rest) (hd : decode r = .ok i) : step s = exec i (s.withRequests rest) := by
  simp [step, takeRequest_cons hr, hd]

/-- A run of the machine behind Host/Core.lean goes on from the next state. -/
theorem run_succ_of_step {s u : State} (k : Nat) (h : step s = .next u) :
    Host.Core.run Sys2Proof.core (k + 1) s = Host.Core.run Sys2Proof.core k u := by
  have h' : Sys2Proof.core.step s = .next u := h
  simp [Host.Core.run, h']

/-- What a step that answers a next state can have done: nothing was issued, or the oldest request was decoded and run. -/
theorem step_cases {s t : State} (h : step s = .next t) :
    (s.requests = [] ∧ t = s) ∨
    (∃ r rest i, s.requests = r :: rest ∧ decode r = .ok i ∧ exec i (s.withRequests rest) = .next t) := by
  rcases hr : s.requests with _ | ⟨r, rest⟩
  · left
    simp only [step, takeRequest_nil hr, Host.Outcome.next.injEq] at h
    exact ⟨rfl, h.symm⟩
  · right
    rcases hd : decode r with e | i
    · simp [step, takeRequest_cons hr, hd] at h
    · exact ⟨r, rest, i, rfl, hd, by rw [← step_of_decode hr hd, h]⟩

end Sys2Proof.Machine
end

