-- ==== Sys2Proof/Laws/PerInstr.lean ====
section
/-! SUPPORT. The encoder gives every instruction as many bytes as its format has (spec 30_encoding.md R34), one lemma per
constructor. -/

namespace Sys2Proof.Laws

/-- The request of an instruction carries the bytes of its format's operand word. -/
def EncodeLength.Statement (i : Instr) : Prop := (encode i).bytes.length = (encode i).format.byteCount

theorem EncodeLength.encode (c : CharWord) : EncodeLength.Statement (.encode c) := rfl
theorem EncodeLength.pwlookup (i : IdxWord) : EncodeLength.Statement (.pwlookup i) := rfl
theorem EncodeLength.duty (p : PulseWord) : EncodeLength.Statement (.duty p) := rfl
theorem EncodeLength.split (v : CellCode) : EncodeLength.Statement (.split v) := rfl
theorem EncodeLength.encLetterA (f : Bool) : EncodeLength.Statement (.encLetterA f) := rfl
theorem EncodeLength.encLetterB (f : Bool) : EncodeLength.Statement (.encLetterB f) := rfl
theorem EncodeLength.encLetterC (f : Bool) : EncodeLength.Statement (.encLetterC f) := rfl
theorem EncodeLength.encLetterD (f : Bool) : EncodeLength.Statement (.encLetterD f) := rfl
theorem EncodeLength.encLetterE (f : Bool) : EncodeLength.Statement (.encLetterE f) := rfl
theorem EncodeLength.encLetterF (f : Bool) : EncodeLength.Statement (.encLetterF f) := rfl
theorem EncodeLength.encLetterG (f : Bool) : EncodeLength.Statement (.encLetterG f) := rfl
theorem EncodeLength.encLetterH (f : Bool) : EncodeLength.Statement (.encLetterH f) := rfl
theorem EncodeLength.encLetterI (f : Bool) : EncodeLength.Statement (.encLetterI f) := rfl
theorem EncodeLength.encLetterJ (f : Bool) : EncodeLength.Statement (.encLetterJ f) := rfl
theorem EncodeLength.encLetterK (f : Bool) : EncodeLength.Statement (.encLetterK f) := rfl
theorem EncodeLength.encLetterL (f : Bool) : EncodeLength.Statement (.encLetterL f) := rfl
theorem EncodeLength.encLetterM (f : Bool) : EncodeLength.Statement (.encLetterM f) := rfl
theorem EncodeLength.encLetterN (f : Bool) : EncodeLength.Statement (.encLetterN f) := rfl
theorem EncodeLength.encLetterO (f : Bool) : EncodeLength.Statement (.encLetterO f) := rfl
theorem EncodeLength.encLetterP (f : Bool) : EncodeLength.Statement (.encLetterP f) := rfl
theorem EncodeLength.encLetterQ (f : Bool) : EncodeLength.Statement (.encLetterQ f) := rfl
theorem EncodeLength.encLetterR (f : Bool) : EncodeLength.Statement (.encLetterR f) := rfl
theorem EncodeLength.encLetterS (f : Bool) : EncodeLength.Statement (.encLetterS f) := rfl
theorem EncodeLength.encLetterT (f : Bool) : EncodeLength.Statement (.encLetterT f) := rfl
theorem EncodeLength.encLetterU (f : Bool) : EncodeLength.Statement (.encLetterU f) := rfl
theorem EncodeLength.encLetterV (f : Bool) : EncodeLength.Statement (.encLetterV f) := rfl
theorem EncodeLength.encLetterW (f : Bool) : EncodeLength.Statement (.encLetterW f) := rfl
theorem EncodeLength.encLetterX (f : Bool) : EncodeLength.Statement (.encLetterX f) := rfl
theorem EncodeLength.encLetterY (f : Bool) : EncodeLength.Statement (.encLetterY f) := rfl
theorem EncodeLength.encLetterZ (f : Bool) : EncodeLength.Statement (.encLetterZ f) := rfl
theorem EncodeLength.encDigit0 : EncodeLength.Statement (.encDigit0) := rfl
theorem EncodeLength.encDigit1 : EncodeLength.Statement (.encDigit1) := rfl
theorem EncodeLength.encDigit2 : EncodeLength.Statement (.encDigit2) := rfl
theorem EncodeLength.encDigit3 : EncodeLength.Statement (.encDigit3) := rfl
theorem EncodeLength.encDigit4 : EncodeLength.Statement (.encDigit4) := rfl
theorem EncodeLength.encDigit5 : EncodeLength.Statement (.encDigit5) := rfl
theorem EncodeLength.encDigit6 : EncodeLength.Statement (.encDigit6) := rfl
theorem EncodeLength.encDigit7 : EncodeLength.Statement (.encDigit7) := rfl
theorem EncodeLength.encDigit8 : EncodeLength.Statement (.encDigit8) := rfl
theorem EncodeLength.encDigit9 : EncodeLength.Statement (.encDigit9) := rfl
theorem EncodeLength.encSymSpace : EncodeLength.Statement (.encSymSpace) := rfl
theorem EncodeLength.encSymPeriod : EncodeLength.Statement (.encSymPeriod) := rfl
theorem EncodeLength.encSymComma : EncodeLength.Statement (.encSymComma) := rfl
theorem EncodeLength.encSymQuestion : EncodeLength.Statement (.encSymQuestion) := rfl
theorem EncodeLength.encSymExclam : EncodeLength.Statement (.encSymExclam) := rfl
theorem EncodeLength.encFallback (c : CharWord) : EncodeLength.Statement (.encFallback c) := rfl
theorem EncodeLength.pwl0 : EncodeLength.Statement (.pwl0) := rfl
theorem EncodeLength.pwl1 : EncodeLength.Statement (.pwl1) := rfl
theorem EncodeLength.pwl2 : EncodeLength.Statement (.pwl2) := rfl
theorem EncodeLength.pwl3 : EncodeLength.Statement (.pwl3) := rfl
theorem EncodeLength.pwl4 : EncodeLength.Statement (.pwl4) := rfl
theorem EncodeLength.pwl5 : EncodeLength.Statement (.pwl5) := rfl
theorem EncodeLength.pwl6 : EncodeLength.Statement (.pwl6) := rfl
theorem EncodeLength.pwl7 : EncodeLength.Statement (.pwl7) := rfl
theorem EncodeLength.pwlFallback (i : IdxWord) : EncodeLength.Statement (.pwlFallback i) := rfl

end Sys2Proof.Laws
end

