-- ==== Sys2Proof/Machine/Flags.lean ====
section
/-! DEFINITION. Flags: there are none. No operation produces a status bit, a carry, an overflow, an "in range" or a
"character supported" indication; the only output of an operation is its result word (spec 10_state.md R13). ENCODE's
fallback and PWLOOKUP's out-of-range arm are silent (40_character_encoder.md R51, 41_actuation_mapper.md R60, 60_exceptions.md
R84). So this file defines nothing, and State has no field for a flag. -/
end

