-- ==== Sys2Proof/Tests/Slice0.lean ====
section
/-! SUPPORT. The model's own tests. Every expected value comes from the spec: opcode_table.json's encodings, the vectors of
95_test_vectors.md, or the rules named. -/

namespace Sys2Proof.Tests

open Sys2Proof.Machine

/-! WellFormed refuses an ill-formed term for each of its two checks (40_character_encoder.md R51, 41_actuation_mapper.md R60). -/

theorem test_wellFormed_refuses_letter_in_fallback :
    (Instr.encFallback 0x5A).wellFormed = false := by decide

theorem test_wellFormed_refuses_space_in_fallback :
    (Instr.encFallback 0x20).wellFormed = false := by decide

theorem test_wellFormed_accepts_at_sign_in_fallback :
    (Instr.encFallback 0x40).wellFormed = true := by decide

theorem test_wellFormed_refuses_seven_in_fallback :
    (Instr.pwlFallback 7).wellFormed = false := by decide

theorem test_wellFormed_accepts_eight_in_fallback :
    (Instr.pwlFallback 8).wellFormed = true := by decide

/-! Decode: for every constructor a word written out from the encoding column of its row in opcode_table.json. -/

theorem test_decode_encode :
    decode ⟨.operationChar8, [0b01001000]⟩ = .ok (.encode 0x48) := rfl

theorem test_decode_pwlookup :
    decode ⟨.operationIdx8, [0b00001111]⟩ = .ok (.pwlookup 0x0F) := rfl

theorem test_decode_duty :
    decodeTableWord 16 0b0100111000100001 = some (.duty 20001) := by decide

theorem test_decode_split :
    decode ⟨.helperCell6, [0b011010]⟩ = .ok (.split 0x1A) := rfl

theorem test_decode_encLetterA :
    decodeTableWord 8 0b01000001 = some (.encLetterA false) := by decide

theorem test_decode_encLetterB :
    decodeTableWord 8 0b01100010 = some (.encLetterB true) := by decide

theorem test_decode_encLetterC :
    decodeTableWord 8 0b01000011 = some (.encLetterC false) := by decide

theorem test_decode_encLetterD :
    decodeTableWord 8 0b01100100 = some (.encLetterD true) := by decide

theorem test_decode_encLetterE :
    decodeTableWord 8 0b01000101 = some (.encLetterE false) := by decide

theorem test_decode_encLetterF :
    decodeTableWord 8 0b01100110 = some (.encLetterF true) := by decide

theorem test_decode_encLetterG :
    decodeTableWord 8 0b01000111 = some (.encLetterG false) := by decide

theorem test_decode_encLetterH :
    decodeTableWord 8 0b01101000 = some (.encLetterH true) := by decide

theorem test_decode_encLetterI :
    decodeTableWord 8 0b01001001 = some (.encLetterI false) := by decide

theorem test_decode_encLetterJ :
    decodeTableWord 8 0b01101010 = some (.encLetterJ true) := by decide

theorem test_decode_encLetterK :
    decodeTableWord 8 0b01001011 = some (.encLetterK false) := by decide

theorem test_decode_encLetterL :
    decodeTableWord 8 0b01101100 = some (.encLetterL true) := by decide

theorem test_decode_encLetterM :
    decodeTableWord 8 0b01001101 = some (.encLetterM false) := by decide

theorem test_decode_encLetterN :
    decodeTableWord 8 0b01101110 = some (.encLetterN true) := by decide

theorem test_decode_encLetterO :
    decodeTableWord 8 0b01001111 = some (.encLetterO false) := by decide

theorem test_decode_encLetterP :
    decodeTableWord 8 0b01110000 = some (.encLetterP true) := by decide

theorem test_decode_encLetterQ :
    decodeTableWord 8 0b01010001 = some (.encLetterQ false) := by decide

theorem test_decode_encLetterR :
    decodeTableWord 8 0b01110010 = some (.encLetterR true) := by decide

theorem test_decode_encLetterS :
    decodeTableWord 8 0b01010011 = some (.encLetterS false) := by decide

theorem test_decode_encLetterT :
    decodeTableWord 8 0b01110100 = some (.encLetterT true) := by decide

theorem test_decode_encLetterU :
    decodeTableWord 8 0b01010101 = some (.encLetterU false) := by decide

theorem test_decode_encLetterV :
    decodeTableWord 8 0b01110110 = some (.encLetterV true) := by decide

theorem test_decode_encLetterW :
    decodeTableWord 8 0b01010111 = some (.encLetterW false) := by decide

theorem test_decode_encLetterX :
    decodeTableWord 8 0b01111000 = some (.encLetterX true) := by decide

theorem test_decode_encLetterY :
    decodeTableWord 8 0b01011001 = some (.encLetterY false) := by decide

theorem test_decode_encLetterZ :
    decodeTableWord 8 0b01111010 = some (.encLetterZ true) := by decide

theorem test_decode_encDigit0 :
    decodeTableWord 8 0b00110000 = some .encDigit0 := by decide

theorem test_decode_encDigit1 :
    decodeTableWord 8 0b00110001 = some .encDigit1 := by decide

theorem test_decode_encDigit2 :
    decodeTableWord 8 0b00110010 = some .encDigit2 := by decide

theorem test_decode_encDigit3 :
    decodeTableWord 8 0b00110011 = some .encDigit3 := by decide

theorem test_decode_encDigit4 :
    decodeTableWord 8 0b00110100 = some .encDigit4 := by decide

theorem test_decode_encDigit5 :
    decodeTableWord 8 0b00110101 = some .encDigit5 := by decide

theorem test_decode_encDigit6 :
    decodeTableWord 8 0b00110110 = some .encDigit6 := by decide

theorem test_decode_encDigit7 :
    decodeTableWord 8 0b00110111 = some .encDigit7 := by decide

theorem test_decode_encDigit8 :
    decodeTableWord 8 0b00111000 = some .encDigit8 := by decide

theorem test_decode_encDigit9 :
    decodeTableWord 8 0b00111001 = some .encDigit9 := by decide

theorem test_decode_encSymSpace :
    decodeTableWord 8 0b00100000 = some .encSymSpace := by decide

theorem test_decode_encSymPeriod :
    decodeTableWord 8 0b00101110 = some .encSymPeriod := by decide

theorem test_decode_encSymComma :
    decodeTableWord 8 0b00101100 = some .encSymComma := by decide

theorem test_decode_encSymQuestion :
    decodeTableWord 8 0b00111111 = some .encSymQuestion := by decide

theorem test_decode_encSymExclam :
    decodeTableWord 8 0b00100001 = some .encSymExclam := by decide

theorem test_decode_encFallback :
    decodeTableWord 8 0b11000001 = some (.encFallback 0xC1) := by decide

theorem test_decode_pwl0 :
    decodeTableWord 8 0b00000000 = some .pwl0 := by decide

theorem test_decode_pwl1 :
    decodeTableWord 8 0b00000001 = some .pwl1 := by decide

theorem test_decode_pwl2 :
    decodeTableWord 8 0b00000010 = some .pwl2 := by decide

theorem test_decode_pwl3 :
    decodeTableWord 8 0b00000011 = some .pwl3 := by decide

theorem test_decode_pwl4 :
    decodeTableWord 8 0b00000100 = some .pwl4 := by decide

theorem test_decode_pwl5 :
    decodeTableWord 8 0b00000101 = some .pwl5 := by decide

theorem test_decode_pwl6 :
    decodeTableWord 8 0b00000110 = some .pwl6 := by decide

theorem test_decode_pwl7 :
    decodeTableWord 8 0b00000111 = some .pwl7 := by decide

theorem test_decode_pwlFallback :
    decode ⟨.decodeIdx8, [0b00001111]⟩ = .ok (.pwlFallback 0x0F) := rfl

/-! Decode rejects by name what is no operand word (10_state.md R16, D17). -/

theorem test_decode_refuses_wide_cell :
    decode ⟨.helperCell6, [0x40]⟩ = .error .cellCodeTooWide := rfl

theorem test_decode_refuses_one_byte_duty :
    decode ⟨.operationPw16, [0x20]⟩ = .error (.wrongByteCount 1) := rfl

theorem test_decode_refuses_two_byte_char :
    decode ⟨.decodeChar8, [0x20, 0x20]⟩ = .error (.wrongByteCount 2) := rfl

/-! ENCODE: the vectors of 95_test_vectors.md sections 1 and 2; letters and digits under REF. -/

theorem test_encode_ref_H_and_h :
    encodeCell Config.ref 0x48 = 0x32 ∧ encodeCell Config.ref 0x68 = 0x32 := by decide

theorem test_encode_ref_Z_and_digits :
    encodeCell Config.ref 0x5A = 0x2B ∧ encodeCell Config.ref 0x30 = 0x16 ∧ encodeCell Config.ref 0x39 = 0x14 := by decide

theorem test_encode_range_neighbours :
    [0x40, 0x5B, 0x60, 0x7B, 0x2F, 0x3A, 0x00, 0xFF, 0x19, 0x0E, 0xC1, 0xE1].map (encodeCell Config.ref) = List.replicate 12 0x00 := by decide

theorem test_encode_symbols :
    [0x20, 0x2E, 0x2C, 0x3F, 0x21].map (encodeCell Config.chip) = [0x00, 0x13, 0x10, 0x19, 0x1A] := by decide

/-! PWLOOKUP: 95_test_vectors.md section 3. -/

theorem test_pulse_ref_table :
    [0, 1, 2, 3, 4, 5, 6, 7].map (pulseWidth Config.ref) = [844, 1023, 1201, 1380, 1558, 1737, 1915, 2094] := by decide

theorem test_pulse_out_of_range :
    [8, 9, 15, 16, 64, 127, 128, 254, 255].map (pulseWidth Config.chip) = List.replicate 9 844 := by decide

/-! DUTY: 95_test_vectors.md section 4. -/

theorem test_duty_vectors :
    [0, 1, 2, 3, 4, 5, 6, 844, 2094, 10000].map (dutyValue Config.chip) = [0, 3, 6, 9, 13, 16, 19, 2765, 6861, 32767] := by decide

theorem test_duty_above_period :
    [19999, 20000, 20001, 32768, 40000, 65535].map (dutyValue Config.chip) = [65531, 65535, 65538, 107372, 131070, 214741] := by decide

/-! SPLIT and RENDER_CHAR: 95_test_vectors.md sections 5 and 6 (P1 to P3). -/

theorem test_split_vectors :
    [0x00, 0x3F, 0x38, 0x07, 0x13, 0x10, 0x19, 0x1A, 0x08, 0x04].map splitCell =
      [(0, 0), (7, 7), (7, 0), (0, 7), (2, 3), (2, 0), (3, 1), (3, 2), (1, 0), (0, 4)] := by decide

theorem test_render_ref_Hi :
    [0x48, 0x69, 0x21].map (renderChar Config.ref) = [.duties 6274 3935, .duties 3935 5105, .duties 4521 3935] := by decide

theorem test_render_blank :
    [0x20, 0x7E, 0x09, 0xE9].map (renderChar Config.chip) = List.replicate 4 (.duties 2765 2765) := rfl

theorem test_render_without_scaler :
    renderChar { Config.ref with scalerPresent := false } 0x21 = .pulses 1380 1201 := by decide

/-! The machine: one step on a small state. The opaque tables make these `rfl`. -/

/-- The reset state with one request issued. -/
def issued (r : Request) : State := { State.reset with requests := [r] }

theorem test_step_encode_exclam :
    step (issued ⟨.operationChar8, [0x21]⟩) = .next { State.reset with charIn := 0x21, cellOut := 0x1A } := rfl

theorem test_step_letter_row :
    step (issued ⟨.decodeChar8, [0x68]⟩) =
      .next { State.reset with charIn := 0x68, cellOut := Config.chip.letterRom[7] } := rfl

theorem test_step_digit_row :
    step (issued ⟨.decodeChar8, [0x39]⟩) =
      .next { State.reset with charIn := 0x39, cellOut := Config.chip.digitRom[9] } := rfl

theorem test_step_pwlookup_fifteen :
    step (issued ⟨.operationIdx8, [0x0F]⟩) = .next { State.reset with idxIn := 0x0F, pwOut := 844 } := rfl

theorem test_step_pulse_row_seven :
    step (issued ⟨.decodeIdx8, [0x07]⟩) = .next { State.reset with idxIn := 7, pwOut := 2094 } := rfl

theorem test_step_duty_above_period :
    step (issued ⟨.operationPw16, [0x21, 0x4E]⟩) = .next { State.reset with scaler := some ⟨20001, 65538⟩ } := rfl

theorem test_step_duty_without_scaler :
    step { issued ⟨.operationPw16, [0x21, 0x4E]⟩ with scaler := none } = .refused .scalerAbsent := rfl

theorem test_step_split_exclam :
    step (issued ⟨.helperCell6, [0x1A]⟩) =
      .next { State.reset with splitIn := 0x1A, splitHi := 3, splitLo := 2 } := rfl

theorem test_step_idle :
    step State.reset = .next State.reset := rfl

theorem test_fetch_word_runs_from_reset :
    step (State.reset.withFetchWord 8 0x41) = exec (.encLetterA false) State.reset := rfl

theorem test_command_record_defaults :
    (⟨[0x48], 3000, 750, false, false⟩ : CommandRecord) = { text := [0x48] } ∧
      (CommandRecord.requests { text := [0x48, 0x69] }).length = 2 := by decide

/-! Witnesses: concrete values that meet the hypotheses of each statement that has some. -/

theorem test_witness_encode_letters :
    (0x41#8).toNat = 0x41 + (0 : Fin 26).val ∧ (0x61#8).toNat = 0x61 + (0 : Fin 26).val ∧
      (0x5A#8).toNat = 0x41 + (25 : Fin 26).val ∧ (0x7A#8).toNat = 0x61 + (25 : Fin 26).val := by decide

theorem test_witness_encode_digits :
    (0x30#8).toNat = 0x30 + (0 : Fin 10).val ∧ (0x39#8).toNat = 0x30 + (9 : Fin 10).val := by decide

theorem test_witness_encode_otherwise :
    ∀ c ∈ [0x00, 0x1F, 0x22, 0x2F, 0x3A, 0x40, 0x5B, 0x60, 0x7B, 0x80, 0xFF],
      (∀ k : Fin 26, (c : CharWord).toNat ≠ 0x41 + k.val ∧ c.toNat ≠ 0x61 + k.val) ∧
      (∀ k : Fin 10, c.toNat ≠ 0x30 + k.val) ∧ c ∉ [0x20, 0x2E, 0x2C, 0x3F, 0x21] := by decide

theorem test_witness_encFallback :
    (Instr.encFallback 0x00).wellFormed = true ∧ (Instr.encFallback 0xFF).wellFormed = true := by decide

theorem test_witness_pwlFallback :
    (Instr.pwlFallback 8).wellFormed = true ∧ (Instr.pwlFallback 255).wellFormed = true := by decide

theorem test_witness_configuration :
    Config.ref.Admissible ∧ Config.ref.DecidedPwm ∧ Config.ref.scalerPresent = true ∧ Config.ref.LetterNonzero := ⟨ref_admissible, ⟨rfl, rfl⟩, rfl, ref_letterNonzero⟩

/-- Admissible configurations of each kind: a block without the DUTY unit, and PWM constants other than the decided. -/
theorem test_witness_configuration_kinds :
    (({ Config.ref with scalerPresent := false } : Config).Admissible ∧
      ({ Config.ref with scalerPresent := false } : Config).DecidedPwm) ∧
    (({ Config.ref with pwmPeriodUs := 1 } : Config).Admissible ∧
      ¬ ({ Config.ref with pwmPeriodUs := 1 } : Config).DecidedPwm) :=
  ⟨⟨ref_admissible, rfl, rfl⟩,
    have ⟨a, b, c, d, e, f, g, h, _⟩ := ref_admissible
    ⟨a, b, c, d, e, f, g, h, Nat.le_refl 1⟩, by decide⟩

/-- The ends of the fallback set and the space, and the ends of the strictly rising range. -/
theorem test_witness_blank_and_rising :
    isFallbackCode 0x00 = true ∧ isFallbackCode 0xFF = true ∧ isFallbackCode 0x20 = false ∧ 0 ≤ 6 ∧ 6 ≤ 6 := by decide

theorem test_witness_encode_properties :
    (0x61 ≤ (0x61#8).toNat ∧ (0x61#8).toNat ≤ 0x7A ∧ (0x7A#8).toNat ≤ 0x7A ∧
      encodeCell Config.ref 0x7A = encodeCell Config.ref 0x7A) ∧ isFallbackCode 0x7E = true := by decide

theorem test_witness_operand_bits :
    letterIndex (caseFold 0x41) = some 0 ∧ letterIndex (caseFold 0x7A) = some 25 ∧ digitIndex 0x30 = some 0 ∧
      digitIndex 0x39 = some 9 ∧ idxOver 7 = 0 ∧ idxOver 8 ≠ 0 := by decide

theorem test_witness_scaler_present :
    State.reset.scaler = some ⟨0, 0⟩ ∧ State.reset.scaler.isSome = true := by decide

theorem test_witness_scaler_absent :
    ({ State.reset with scaler := none } : State).scaler = none := by decide

theorem test_witness_caller_keeps_period :
    CallerKeepsPeriod 20000 ∧ ¬ CallerKeepsPeriod 20001 := by unfold CallerKeepsPeriod; decide

theorem test_witness_duty_step :
    (1#16).toNat = (0#16).toNat + 1 ∧ (65535#16).toNat = (65534#16).toNat + 1 ∧ (0#16).toNat < (65535#16).toNat := by decide

theorem test_witness_unit_present :
    UnitPresent (.duty 65535) State.reset ∧ UnitPresent (.encode 0xFF) { State.reset with scaler := none } := ⟨fun _ => rfl, fun h => nomatch h⟩

theorem test_witness_instruction_next :
    (∃ t, exec (.encode 0x41) State.reset = .next t) ∧ (∃ t, exec (.pwlookup 255) State.reset = .next t) ∧
      (∃ t, exec (.duty 65535) State.reset = .next t) ∧ (∃ t, exec (.split 0x3F) State.reset = .next t) ∧
      instrUnit (.encode 0x41) = .encoder ∧ instrUnit (.pwlookup 255) = .lookup ∧
      instrUnit (.duty 65535) = .scaler ∧ instrUnit (.split 0x3F) = .caller := ⟨⟨_, rfl⟩, ⟨_, rfl⟩, ⟨_, rfl⟩, ⟨_, rfl⟩, rfl, rfl, rfl, rfl⟩

theorem test_witness_units_differ :
    instrUnit (.encode 0x41) ≠ instrUnit (.duty 20000) := by decide

theorem test_witness_step_decoded :
    (issued ⟨.decodeIdx8, [0x07]⟩).requests = [⟨.decodeIdx8, [0x07]⟩] ∧ decode ⟨.decodeIdx8, [0x07]⟩ = .ok .pwl7 := ⟨rfl, rfl⟩

theorem test_witness_step_idle :
    State.reset.requests = [] := by decide

theorem test_witness_step_undecodable :
    (issued ⟨.helperCell6, [0x40]⟩).requests = [⟨.helperCell6, [0x40]⟩] ∧
      decode ⟨.helperCell6, [0x40]⟩ = .error .cellCodeTooWide := ⟨rfl, rfl⟩

theorem test_witness_table_word :
    decodeTableWord 8 0x07 = some .pwl7 ∧ decodeTableWord 16 0x4E20 = some (.duty 20000) ∧
      decodeTableWord 6 0x1A = some (.split 0x1A) := by decide

theorem test_witness_coherent :
    (issued ⟨.decodeChar8, [0x41]⟩).Coherent ∧ ∃ t, step (issued ⟨.decodeChar8, [0x41]⟩) = .next t := ⟨⟨rfl, rfl, fun _ hu => by injection hu with hu; subst hu; rfl, rfl⟩, ⟨_, rfl⟩⟩

theorem test_witness_pulse_in_range :
    (issued ⟨.decodeIdx8, [0x07]⟩).PulseInRange ∧ ∃ t, step (issued ⟨.decodeIdx8, [0x07]⟩) = .next t := ⟨by unfold State.PulseInRange; decide, ⟨_, rfl⟩⟩

/-- A step that takes the last request, one that takes the first of two, and the idle one; with and without the unit. -/
theorem test_witness_step_takes :
    (∃ t, step (issued ⟨.decodeChar8, [0x41]⟩) = .next t) ∧
    (∃ t, step { State.reset with scaler := none, requests := [⟨.decodeIdx8, [0x07]⟩, ⟨.decodeIdx8, [0x08]⟩] } = .next t) ∧
    (∃ t, step State.reset = .next t) := ⟨⟨_, rfl⟩, ⟨_, rfl⟩, ⟨_, rfl⟩⟩

theorem test_witness_history :
    (Instr.duty 65535).wellFormed = true ∧ UnitPresent (.duty 65535) State.reset ∧
      ∀ r ∈ [encode (.encode 0x48), encode (.duty 9), encode (.encFallback 0x7E)],
        ∃ j, decode r = .ok j ∧ UnitPresent j State.reset := by
  refine ⟨rfl, fun _ => rfl, ?_⟩
  simp only [List.mem_cons, List.not_mem_nil, or_false]
  rintro r (rfl | rfl | rfl) <;> exact ⟨_, rfl, fun _ => rfl⟩

theorem test_witness_history_without_scaler :
    ∀ i ∈ [Instr.encode 0x48, .pwlookup 255, .split 0x3F], i.wellFormed = true ∧
      UnitPresent i { State.reset with scaler := none } ∧
      ∃ j, decode (encode i) = .ok j ∧ UnitPresent j { State.reset with scaler := none } := by
  simp only [List.mem_cons, List.not_mem_nil, or_false]
  rintro i (rfl | rfl | rfl) <;> exact ⟨rfl, (nomatch ·), _, rfl, (nomatch ·)⟩

theorem test_witness_text_position :
    0 < (⟨[0x48, 0x69], 3000, 750, true, true⟩ : CommandRecord).text.length ∧
      1 < (⟨[0x48, 0x69], 3000, 750, true, true⟩ : CommandRecord).text.length := by decide

theorem test_witness_decode_encode :
    (Instr.encLetterQ true).wellFormed = true ∧ decode ⟨.decodeChar8, [0x71]⟩ = .ok (.encLetterQ true) := ⟨rfl, rfl⟩

end Sys2Proof.Tests
end

/-! PROOFS. The character encoder: ENCODE by the class of its character (40_character_encoder.md R46 to R56). -/

namespace Sys2Proof.Machine

/-- The letter arm (R48), for either case of the letter: the case fold brings both codes to 'a'..'z' (R47). -/
theorem encodeCell_letter (cfg : Config) {c : CharWord} {k : Fin 26}
    (h : c.toNat = 0x41 + k.val ∨ c.toNat = 0x61 + k.val) : encodeCell cfg c = cfg.letterRom[k] := by
  have hfold : (caseFold c).toNat = 0x61 + k.val := by
    rw [caseFold_toNat]
    split <;> omega
  simp only [encodeCell, foldedCell, letterIndex_eq_some.mpr hfold, romLetter]

/-- A code outside 'A'..'Z' is not folded (R47). -/
theorem caseFold_eq_self {c : CharWord} (h : ¬ (0x41 ≤ c.toNat ∧ c.toNat ≤ 0x5A)) : caseFold c = c := by
  apply BitVec.eq_of_toNat_eq
  rw [caseFold_toNat, if_neg h]

/-- The digit arm (R49). -/
theorem encodeCell_digit (cfg : Config) {c : CharWord} {k : Fin 10} (h : c.toNat = 0x30 + k.val) :
    encodeCell cfg c = cfg.digitRom[k] := by
  have hletter : letterIndex c = none := letterIndex_eq_none.mpr (by omega)
  simp only [encodeCell, foldedCell, caseFold_eq_self (c := c) (by omega), hletter,
    digitIndex_eq_some.mpr h, romDigit]

/-! The symbol arm (R50). -/

theorem encodeCell_space (cfg : Config) : encodeCell cfg 0x20 = cfg.symSpace := rfl
theorem encodeCell_period (cfg : Config) : encodeCell cfg 0x2E = cfg.symPeriod := rfl
theorem encodeCell_comma (cfg : Config) : encodeCell cfg 0x2C = cfg.symComma := rfl
theorem encodeCell_question (cfg : Config) : encodeCell cfg 0x3F = cfg.symQuestion := rfl
theorem encodeCell_exclam (cfg : Config) : encodeCell cfg 0x21 = cfg.symExclam := rfl

theorem symbolCell_eq_none (cfg : Config) {c : CharWord} (h : c ∉ [0x20, 0x2E, 0x2C, 0x3F, 0x21]) :
    symbolCell cfg c = none := by
  simp only [List.mem_cons, List.not_mem_nil, or_false, not_or] at h
  obtain ⟨hspace, hperiod, hcomma, hquestion, hexclam⟩ := h
  rw [symbolCell, if_neg hspace, if_neg hperiod, if_neg hcomma, if_neg hquestion, if_neg hexclam]

/-- The 189 codes of R51 are those that no letter, digit or symbol arm is for. -/
theorem isFallbackCode_iff {c : CharWord} :
    isFallbackCode c = true ↔
      (∀ k : Fin 26, c.toNat ≠ 0x41 + k.val ∧ c.toNat ≠ 0x61 + k.val) ∧
      (∀ k : Fin 10, c.toNat ≠ 0x30 + k.val) ∧ c ∉ [0x20, 0x2E, 0x2C, 0x3F, 0x21] := by
  simp only [isFallbackCode, Bool.or_eq_true, decide_eq_true_eq, List.mem_cons, List.not_mem_nil, or_false,
    not_or, ← BitVec.toNat_inj, BitVec.ofNat_eq_ofNat, BitVec.toNat_ofNat]
  constructor
  · intro h
    exact ⟨fun k => by omega, fun k => by omega, by omega⟩
  · rintro ⟨hletter, hdigit, hsymbol⟩
    have hupper : ¬ (0x41 ≤ c.toNat ∧ c.toNat ≤ 0x5A) := fun hc =>
      (hletter ⟨c.toNat - 0x41, by omega⟩).1 (by dsimp only; omega)
    have hlower : ¬ (0x61 ≤ c.toNat ∧ c.toNat ≤ 0x7A) := fun hc =>
      (hletter ⟨c.toNat - 0x61, by omega⟩).2 (by dsimp only; omega)
    have hnum : ¬ (0x30 ≤ c.toNat ∧ c.toNat ≤ 0x39) := fun hc =>
      hdigit ⟨c.toNat - 0x30, by omega⟩ (by dsimp only; omega)
    omega

/-- The otherwise arm (R51). -/
theorem encodeCell_fallback (cfg : Config) {c : CharWord} (h : isFallbackCode c = true) :
    encodeCell cfg c = cfg.cellBlank := by
  obtain ⟨hletter, hdigit, hsymbol⟩ := isFallbackCode_iff.mp h
  have hfold : caseFold c = c := caseFold_eq_self fun hc =>
    (hletter ⟨c.toNat - 0x41, by omega⟩).1 (by dsimp only; omega)
  unfold encodeCell
  rw [hfold]
  rcases foldedCell_cases cfg c with ⟨k, hk, -⟩ | ⟨k, hk, -⟩ | ⟨-, -, hcell⟩
  · exact absurd hk (hletter k).2
  · exact absurd hk (hdigit k)
  · rw [hcell, symbolCell_eq_none cfg hsymbol, Option.getD_none]

/-- ENCODE drives its own port pair with the operand and the cell of the modelled block. -/
theorem exec_encode (c : CharWord) (s : State) :
    exec (.encode c) s = .next { s with charIn := c, cellOut := encodeCell Config.chip c } := rfl

/-- Settles O1: the cell is `encodeCell`, taken arm by arm. -/
theorem encodeGivesCellOfCharacter : Obligations.EncodeGivesCellOfCharacter := by
  intro c s
  refine ⟨encodeCell Config.chip c, exec_encode c s, fun _ => encodeCell_letter _, fun _ => encodeCell_digit _,
    ?space, ?period, ?comma, ?question, ?exclam, ?otherwise⟩
  case space => rintro rfl; exact encodeCell_space _
  case period => rintro rfl; exact encodeCell_period _
  case comma => rintro rfl; exact encodeCell_comma _
  case question => rintro rfl; exact encodeCell_question _
  case exclam => rintro rfl; exact encodeCell_exclam _
  case otherwise =>
    intro hletter hdigit hsymbol
    exact encodeCell_fallback _ (isFallbackCode_iff.mpr ⟨hletter, hdigit, hsymbol⟩)

/-! R56: what holds of ENCODE for every admissible configuration. -/

/-- The index of a lower-case letter's code. -/
theorem exists_lowercase_index {c : CharWord} (h : 0x61 ≤ c.toNat ∧ c.toNat ≤ 0x7A) :
    ∃ k : Fin 26, c.toNat = 0x61 + k.val :=
  ⟨⟨c.toNat - 0x61, by omega⟩, by dsimp only; omega⟩

/-- R56 (b): a letter's cell tells the letter, because the table's entries are distinct. -/
theorem encodeCell_injOn_lowercase {cfg : Config} (hdistinct : cfg.LetterDistinct) {c d : CharWord}
    (hc : 0x61 ≤ c.toNat ∧ c.toNat ≤ 0x7A) (hd : 0x61 ≤ d.toNat ∧ d.toNat ≤ 0x7A)
    (heq : encodeCell cfg c = encodeCell cfg d) : c = d := by
  obtain ⟨j, hj⟩ := exists_lowercase_index hc
  obtain ⟨k, hk⟩ := exists_lowercase_index hd
  rw [encodeCell_letter cfg (.inr hj), encodeCell_letter cfg (.inr hk)] at heq
  have hjk : j = k := by
    by_contra hne
    exact hdistinct j k hne heq
  apply BitVec.eq_of_toNat_eq
  rw [hj, hk, hjk]

/-- R56 (c): the fallback codes and the space are blank. -/
theorem encodeCell_blank {cfg : Config} (hsym : cfg.Symbols) {c : CharWord}
    (h : isFallbackCode c = true ∨ c = 0x20) : encodeCell cfg c = 0x00 := by
  obtain ⟨hspace, -, -, -, -, hblank⟩ := hsym
  rcases h with hfallback | rfl
  · rw [encodeCell_fallback cfg hfallback, hblank]
  · rw [encodeCell_space, hspace]

/-- The blank codes of R56 (c) are 190: the 189 of R51 and the space. -/
theorem countP_blank_codes :
    (List.range 256).countP (fun n => isFallbackCode (BitVec.ofNat 8 n) || BitVec.ofNat 8 n == 0x20) = 190 := by
  decide +kernel

/-- R56 (d): at least the 190 blank codes share the cell 0x00. -/
theorem le_length_filter_encodeCell_zero {cfg : Config} (hsym : cfg.Symbols) :
    190 ≤ ((List.range 256).filter (fun n => encodeCell cfg (BitVec.ofNat 8 n) = 0x00)).length := by
  rw [← List.countP_eq_length_filter, ← countP_blank_codes]
  refine List.countP_mono_left fun n _ hn => ?_
  rw [decide_eq_true_eq]
  exact encodeCell_blank hsym (by simpa using hn)

/-- A configuration made of OPEN tables is admissible when they meet the two properties R7 asks of them. -/
theorem ofTables_admissible {letters : Vector CellCode 26} {digits : Vector CellCode 10}
    {pulses : Vector PulseWord 6} (hdistinct : DistinctCells letters) (hrising : RisingPulses (pulseTable pulses)) :
    (Config.ofTables letters digits pulses).Admissible :=
  ⟨fun k => Nat.le_of_lt_succ (letters[k]).isLt, hdistinct, fun k => Nat.le_of_lt_succ (digits[k]).isLt,
    ⟨rfl, rfl, rfl, rfl, rfl, rfl⟩, ⟨rfl, rfl⟩, hrising, fun i => ((pulseTable pulses)[i]).isLt,
    Nat.succ_pos 15, Nat.succ_pos 19999⟩

/-- REF with another cell for the letter 'a': R7 keeps the letters apart from each other only. -/
def refWithLetterA (v : CellCode) : Config := Config.ofTables (refLetterRom.set 0 v) refDigitRom refPulses

theorem refWithLetterA_admissible {v : CellCode} (h : DistinctCells (refLetterRom.set 0 v)) :
    (refWithLetterA v).Admissible := ofTables_admissible h (by decide)

/-- The codes of a letter's two cases, as bit vectors. -/
theorem toNat_letterCodes (k : Fin 26) :
    (BitVec.ofNat 8 (0x41 + k.val)).toNat = 0x41 + k.val ∧ (BitVec.ofNat 8 (0x61 + k.val)).toNat = 0x61 + k.val := by
  simp only [BitVec.toNat_ofNat]
  omega

/-- Settles O9: (a) to (e) clause by clause. For the tables R7 allows, REF gives the digit 1 and the letter 'a' one
cell, and REF with another cell for 'a' gives that letter the period's cell or the blank. -/
theorem encodePropertiesOfEveryConfiguration : Obligations.EncodePropertiesOfEveryConfiguration := by
  refine ⟨fun cfg hadm => ?_, ⟨Config.ref, ref_admissible, 1, 0, rfl⟩,
    ⟨refWithLetterA 0x13, refWithLetterA_admissible (by decide), 0, rfl⟩,
    ⟨refWithLetterA 0x00, refWithLetterA_admissible (by decide), 0, rfl⟩⟩
  obtain ⟨-, hdistinct, -, hsym, -⟩ := hadm
  have hupper (k : Fin 26) := encodeCell_letter cfg (.inl (toNat_letterCodes k).1)
  have hlower (k : Fin 26) := encodeCell_letter cfg (.inr (toNat_letterCodes k).2)
  refine ⟨fun k => ⟨hupper k, hlower k⟩,
    fun c d hc hc' hd hd' => encodeCell_injOn_lowercase hdistinct ⟨hc, hc'⟩ ⟨hd, hd'⟩,
    fun c => encodeCell_blank hsym, le_length_filter_encodeCell_zero hsym, fun hnonzero k hzero => ?_⟩
  rw [hlower k] at hzero
  have hpos := hnonzero k
  rw [hzero] at hpos
  exact absurd hpos (by decide)

end Sys2Proof.Machine

/-! PROOFS. The actuation mapper: PWLOOKUP by its table and DUTY by its quotient (41_actuation_mapper.md R58 to R71). -/

namespace Sys2Proof.Machine

/-! PWLOOKUP. -/

/-- The in-range arm (R59). -/
theorem pulseWidth_inRange (cfg : Config) {i : IdxWord} {k : Fin 8} (h : i.toNat = k.val) :
    pulseWidth cfg i = cfg.pwRom[k] := by
  rcases pulseWidth_cases cfg i with ⟨j, hj, hwidth⟩ | ⟨hout, -⟩
  · have hjk : j = k := Fin.ext (hj.symm.trans h)
    rw [hwidth, hjk]
  · omega

/-- The out-of-range arm (R60): the home position, whatever the low bits of the index. -/
theorem pulseWidth_outOfRange (cfg : Config) {i : IdxWord} (h : 7 < i.toNat) :
    pulseWidth cfg i = cfg.pwRom[0] := by
  rcases pulseWidth_cases cfg i with ⟨j, hj, -⟩ | ⟨-, hwidth⟩
  · omega
  · exact hwidth

/-- PWLOOKUP drives its own port pair with the operand and the pulse width of the modelled block. -/
theorem exec_pwlookup (i : IdxWord) (s : State) :
    exec (.pwlookup i) s = .next { s with idxIn := i, pwOut := pulseWidth Config.chip i } := rfl

/-- The pulse width of the modelled block, as one case distinction on the index. -/
theorem pulseWidth_chip (i : IdxWord) :
    pulseWidth Config.chip i = if h : i.toNat ≤ 7 then Config.chip.pwRom[i.toNat] else 844 := by
  split
  case isTrue h => exact pulseWidth_inRange Config.chip (k := ⟨i.toNat, by omega⟩) rfl
  case isFalse h => rw [pulseWidth_outOfRange Config.chip (by omega), chip_pwRom_zero]

/-- Settles O11: PWLOOKUP answers with `pulseWidth`, by its two arms. -/
theorem pwlookupGivesTableEntry : Obligations.PwlookupGivesTableEntry :=
  ⟨chip_pwRom_zero, fun i s => by rw [exec_pwlookup, pulseWidth_chip]⟩

/-! R63: what holds of PWLOOKUP for every admissible configuration. -/

/-- `CFG_PW_MONO` for any two entries, not only for neighbours. -/
theorem strictMono_pwRom {cfg : Config} (hmono : cfg.PwMono) :
    StrictMono fun k : Fin 8 => (cfg.pwRom[k]).toNat :=
  Fin.strictMono_iff_lt_succ.mpr hmono

/-- R63 (a), of the table: its entries lie between the ends. -/
theorem pwRom_range {cfg : Config} (hends : cfg.PwEnds) (hmono : cfg.PwMono) (k : Fin 8) :
    844 ≤ (cfg.pwRom[k]).toNat ∧ (cfg.pwRom[k]).toNat ≤ 2094 := by
  obtain ⟨hfirst, hlast⟩ := hends
  have hlow : (cfg.pwRom[0]).toNat ≤ (cfg.pwRom[k]).toNat := (strictMono_pwRom hmono).monotone (Fin.zero_le k)
  have hhigh : (cfg.pwRom[k]).toNat ≤ (cfg.pwRom[7]).toNat := (strictMono_pwRom hmono).monotone (Fin.le_last k)
  rw [hfirst] at hlow
  rw [hlast] at hhigh
  exact ⟨hlow, hhigh⟩

/-- Every result of PWLOOKUP is an entry of the table, in range or not. -/
theorem exists_pulseWidth_eq_pwRom (cfg : Config) (i : IdxWord) : ∃ k : Fin 8, pulseWidth cfg i = cfg.pwRom[k] := by
  rcases pulseWidth_cases cfg i with ⟨k, -, h⟩ | ⟨-, h⟩
  · exact ⟨k, h⟩
  · exact ⟨0, h⟩

/-- R63 (a): the range of the results. -/
theorem pulseWidth_range {cfg : Config} (hends : cfg.PwEnds) (hmono : cfg.PwMono) (i : IdxWord) :
    844 ≤ (pulseWidth cfg i).toNat ∧ (pulseWidth cfg i).toNat ≤ 2094 := by
  obtain ⟨k, hk⟩ := exists_pulseWidth_eq_pwRom cfg i
  rw [hk]
  exact pwRom_range hends hmono k

/-- R63 (b): PWLOOKUP rises strictly between indices of the table. -/
theorem pulseWidth_lt_of_lt {cfg : Config} (hmono : cfg.PwMono) {i j : IdxWord} (hij : i.toNat < j.toNat)
    (hj : j.toNat ≤ 7) : (pulseWidth cfg i).toNat < (pulseWidth cfg j).toNat := by
  rw [pulseWidth_inRange cfg (i := i) (k := ⟨i.toNat, by omega⟩) rfl,
    pulseWidth_inRange cfg (i := j) (k := ⟨j.toNat, by omega⟩) rfl]
  exact strictMono_pwRom hmono hij

/-- R63 (d): the home position is the result of the index 0 and of every index above the table, and of no other. -/
theorem pulseWidth_eq_home_iff {cfg : Config} (hends : cfg.PwEnds) (hmono : cfg.PwMono) (i : IdxWord) :
    pulseWidth cfg i = 844 ↔ i = 0 ∨ 7 < i.toNat := by
  have hzero : pulseWidth cfg 0 = 844 := (pulseWidth_inRange cfg (i := 0) (k := 0) rfl).trans hends.1
  constructor
  · intro hhome
    by_contra! hother
    obtain ⟨hne, hle⟩ := hother
    have hpos : (0 : IdxWord).toNat < i.toNat := Nat.pos_of_ne_zero fun h => hne (BitVec.eq_of_toNat_eq h)
    have hlt := pulseWidth_lt_of_lt hmono hpos hle
    rw [hzero, hhome] at hlt
    exact Nat.lt_irrefl _ hlt
  · rintro (rfl | hout)
    · exact hzero
    · rw [pulseWidth_outOfRange cfg hout, hends.1]

/-! DUTY, for any configuration. -/

/-- R71: the floor of a non-decreasing function does not decrease. -/
theorem monotone_dutyQuotient (cfg : Config) : Monotone (dutyQuotient cfg) :=
  fun _ _ hpq => Nat.div_le_div_right (Nat.mul_le_mul_right _ hpq)

theorem dutyQuotient_zero (cfg : Config) : dutyQuotient cfg 0 = 0 := by
  rw [dutyQuotient, Nat.zero_mul, Nat.zero_div]

/-- R70: full scale at the full period. -/
theorem dutyQuotient_period {cfg : Config} (hpwm : cfg.Pwm) : dutyQuotient cfg cfg.pwmPeriodUs = cfg.maxDuty :=
  Nat.mul_div_cancel_left _ hpwm.2

/-- R69: up to the period, the result is in the nominal range. -/
theorem dutyQuotient_le_maxDuty {cfg : Config} (hpwm : cfg.Pwm) {p : Nat} (hp : p ≤ cfg.pwmPeriodUs) :
    dutyQuotient cfg p ≤ cfg.maxDuty :=
  (monotone_dutyQuotient cfg hp).trans_eq (dutyQuotient_period hpwm)

/-- Settles O15: (a) to (f) clause by clause; for (f), every result is at most 2094 and so within the period. -/
theorem pulseWidthPropertiesOfEveryConfiguration : Obligations.PulseWidthPropertiesOfEveryConfiguration := by
  rintro cfg ⟨-, -, -, -, hends, hmono, -, hpwm⟩
  have hrange := pulseWidth_range hends hmono
  refine ⟨fun i => ⟨(hrange i).1, (hrange i).2, exists_pulseWidth_eq_pwRom cfg i⟩, fun k => ?entries,
    fun n hn => ?rising, ⟨?last, ?firstOut, ?largest⟩, pulseWidth_eq_home_iff hends hmono,
    fun hdecided i => ?nominal⟩
  case entries => exact ⟨BitVec.ofNat 8 k.val, pulseWidth_inRange cfg (by rw [BitVec.toNat_ofNat]; omega)⟩
  case rising => apply pulseWidth_lt_of_lt hmono <;> simp only [BitVec.toNat_ofNat] <;> omega
  case last => exact (pulseWidth_inRange cfg (i := 7) (k := 7) rfl).trans hends.2
  case firstOut => exact (pulseWidth_eq_home_iff hends hmono 8).mpr (.inr (by decide))
  case largest => exact (pulseWidth_eq_home_iff hends hmono 255).mpr (.inr (by decide))
  case nominal =>
    have hperiod : (pulseWidth cfg i).toNat ≤ cfg.pwmPeriodUs := by
      rw [hdecided.2]
      exact (hrange i).2.trans (by decide)
    exact ⟨hperiod, dutyQuotient_le_maxDuty hpwm hperiod⟩

/-! DUTY, with the PWM constants of the modelled block. -/

/-- R65 with the constants of D6. -/
theorem dutyQuotient_chip (p : Nat) : dutyQuotient Config.chip p = p * 65535 / 20000 := rfl

/-- R68: the quotient of the largest operand bounds every other. -/
theorem dutyQuotient_chip_le (p : PulseWord) : dutyQuotient Config.chip p.toNat ≤ 214741 :=
  monotone_dutyQuotient Config.chip (Nat.le_of_lt_succ p.isLt)

/-- R68: 18 bits hold every quotient, so duty_out carries it as it is. -/
theorem dutyValue_chip_toNat (p : PulseWord) :
    (dutyValue Config.chip p).toNat = dutyQuotient Config.chip p.toNat :=
  dutyValue_toNat ((dutyQuotient_chip_le p).trans_lt (by decide))

/-- R67: the product of any pulse width fits 32 bits. -/
theorem duty_product_lt (p : PulseWord) : p.toNat * Config.chip.maxDuty < 2 ^ 32 := by
  have hp := p.isLt
  rw [chip_maxDuty]
  omega

/-- R71: 65535 / 20000 lies between 3 and 4. -/
theorem dutyQuotient_chip_succ (n : Nat) :
    dutyQuotient Config.chip (n + 1) = dutyQuotient Config.chip n + 3 ∨
    dutyQuotient Config.chip (n + 1) = dutyQuotient Config.chip n + 4 := by
  rw [dutyQuotient_chip, dutyQuotient_chip]
  omega

theorem strictMono_dutyQuotient_chip : StrictMono (dutyQuotient Config.chip) :=
  strictMono_nat_of_lt_succ fun n => by
    rcases dutyQuotient_chip_succ n with h | h <;> omega

/-- Settles O16: DUTY drives the unit's ports with `dutyValue`, whose value is the quotient. -/
theorem dutyGivesQuotient : Obligations.DutyGivesQuotient := by
  refine ⟨⟨rfl, chip_pwmResolution, chip_pwmPeriodUs⟩, fun p s u hu => ?_⟩
  exact ⟨dutyValue Config.chip p, exec_duty_of_present hu, by rw [dutyValue_chip_toNat, dutyQuotient_chip]⟩

/-- Settles O19: the largest operand shows that the result is neither saturated nor reduced. -/
theorem dutyWidthsNeverOverflow : Obligations.DutyWidthsNeverOverflow := by
  refine ⟨fun p => ⟨duty_product_lt p, dutyQuotient_chip_le p, dutyValue_chip_toNat p, ?_⟩,
    by decide, rfl, 65535, ?_⟩
  · rw [dutyValue_chip_toNat, dutyQuotient_chip]
  · decide

/-- Settles O20. -/
theorem dutyEndpoints : Obligations.DutyEndpoints := by
  refine ⟨fun cfg hadm => ?_, rfl, rfl⟩
  obtain ⟨-, -, -, -, -, -, -, hpwm⟩ := hadm
  exact ⟨dutyQuotient_zero cfg, dutyQuotient_period hpwm, Nat.mul_mod_right _ _⟩

/-- Settles O21: the steps and the strict rise are those of the quotient. -/
theorem dutyMonotoneWithSteps : Obligations.DutyMonotoneWithSteps := by
  refine ⟨fun cfg _ _ _ hpq => monotone_dutyQuotient cfg hpq, fun p q hq => ?_, fun p q hpq => ?_,
    rfl, rfl, rfl, rfl⟩
  · rw [dutyValue_chip_toNat, dutyValue_chip_toNat, hq]
    exact dutyQuotient_chip_succ p.toNat
  · rw [dutyValue_chip_toNat, dutyValue_chip_toNat]
    exact strictMono_dutyQuotient_chip hpq

end Sys2Proof.Machine

/-! PROOFS. The composite of one character: ENCODE, SPLIT, PWLOOKUP and DUTY together (42_pipeline_composition.md R75, R76). -/

namespace Sys2Proof.Machine

/-! A character reaches the pulse widths and the duties through its cell alone (R75). -/

theorem renderPulses_congr {cfg : Config} {c d : CharWord} (h : encodeCell cfg c = encodeCell cfg d) :
    renderPulses cfg c = renderPulses cfg d := by
  rw [renderPulses, h, renderPulses]

theorem renderChar_congr {cfg : Config} {c d : CharWord} (h : encodeCell cfg c = encodeCell cfg d) :
    renderChar cfg c = renderChar cfg d := by
  rw [renderChar, renderPulses_congr h, renderChar]

/-! What the pipeline of one character ends in (R75). -/

theorem renderChar_of_scaler {cfg : Config} (h : cfg.scalerPresent = true) (c : CharWord) :
    renderChar cfg c = .duties (dutyValue cfg (renderPulses cfg c).1) (dutyValue cfg (renderPulses cfg c).2) :=
  if_pos h

theorem renderChar_of_no_scaler {cfg : Config} (h : cfg.scalerPresent = false) (c : CharWord) :
    renderChar cfg c = .pulses (renderPulses cfg c).1 (renderPulses cfg c).2 :=
  if_neg (by rw [h]; exact Bool.false_ne_true)

/-- R76 (a): both pulse widths are results of PWLOOKUP. -/
theorem exists_renderPulses_eq_pwRom (cfg : Config) (c : CharWord) :
    ∃ j k : Fin 8, renderPulses cfg c = (cfg.pwRom[j], cfg.pwRom[k]) := by
  obtain ⟨j, hj⟩ := exists_pulseWidth_eq_pwRom cfg (halfIndex (splitCell (encodeCell cfg c)).1)
  obtain ⟨k, hk⟩ := exists_pulseWidth_eq_pwRom cfg (halfIndex (splitCell (encodeCell cfg c)).2)
  exact ⟨j, k, Prod.ext hj hk⟩

/-- R76 (a): the range of both pulse widths. -/
theorem renderPulses_range {cfg : Config} (hends : cfg.PwEnds) (hmono : cfg.PwMono) (c : CharWord) :
    (844 ≤ (renderPulses cfg c).1.toNat ∧ (renderPulses cfg c).1.toNat ≤ 2094) ∧
    (844 ≤ (renderPulses cfg c).2.toNat ∧ (renderPulses cfg c).2.toNat ≤ 2094) :=
  ⟨pulseWidth_range hends hmono _, pulseWidth_range hends hmono _⟩

/-- R76 (c): both halves of the blank cell are the index 0, the home position. -/
theorem renderPulses_blank {cfg : Config} (hsym : cfg.Symbols) (hends : cfg.PwEnds) {c : CharWord}
    (h : isFallbackCode c = true ∨ c = 0x20) : renderPulses cfg c = (844, 844) := by
  have hhome : pulseWidth cfg 0 = 844 := (pulseWidth_inRange cfg (i := 0) (k := 0) rfl).trans hends.1
  have hhalves : splitCell (0x00 : CellCode) = (0, 0) := rfl
  rw [renderPulses, encodeCell_blank hsym h, hhalves]
  exact Prod.ext hhome hhome

/-- R76 (d): the halves of the five symbols are those of their constants. -/
theorem splitCell_symbols {cfg : Config} (hsym : cfg.Symbols) :
    splitCell (encodeCell cfg 0x20) = (0, 0) ∧ splitCell (encodeCell cfg 0x2E) = (2, 3) ∧
    splitCell (encodeCell cfg 0x2C) = (2, 0) ∧ splitCell (encodeCell cfg 0x3F) = (3, 1) ∧
    splitCell (encodeCell cfg 0x21) = (3, 2) := by
  obtain ⟨hspace, hperiod, hcomma, hquestion, hexclam, -⟩ := hsym
  rw [encodeCell_space, encodeCell_period, encodeCell_comma, encodeCell_question, encodeCell_exclam,
    hspace, hperiod, hcomma, hquestion, hexclam]
  decide

/-- R76 (e): both cases of a letter give one cell. -/
theorem encodeCell_upper_eq_lower (cfg : Config) (k : Fin 26) :
    encodeCell cfg (BitVec.ofNat 8 (0x41 + k.val)) = encodeCell cfg (BitVec.ofNat 8 (0x61 + k.val)) := by
  obtain ⟨hupper, hlower⟩ := toNat_letterCodes k
  rw [encodeCell_letter cfg (.inl hupper), encodeCell_letter cfg (.inr hlower)]

/-! DUTY where the PWM constants are the decided ones. -/

/-- DUTY reads nothing of the configuration but the PWM constants (R65). -/
theorem dutyValue_eq_chip {cfg : Config} (h : cfg.DecidedPwm) : dutyValue cfg = dutyValue Config.chip := by
  obtain ⟨hresolution, hperiod⟩ := h
  funext p
  simp only [dutyValue, dutyQuotient, Config.maxDuty, hresolution, hperiod, chip_pwmResolution, chip_pwmPeriodUs]

/-- R76 (b): DUTY does not decrease, so a pulse width of the table has its duty between those of the table's ends. -/
theorem dutyValue_chip_range {p : PulseWord} (h : 844 ≤ p.toNat ∧ p.toNat ≤ 2094) :
    2765 ≤ (dutyValue Config.chip p).toNat ∧ (dutyValue Config.chip p).toNat ≤ 6861 := by
  obtain ⟨hlow, hhigh⟩ := h
  have hfirst : dutyQuotient Config.chip 844 = 2765 := rfl
  have hlast : dutyQuotient Config.chip 2094 = 6861 := rfl
  rw [dutyValue_chip_toNat, ← hfirst, ← hlast]
  exact ⟨monotone_dutyQuotient _ hlow, monotone_dutyQuotient _ hhigh⟩

/-- Settles O26: (a), (c), (d) and (e) clause by clause; the duties by the decided constants. -/
theorem renderPropertiesOfEveryConfiguration : Obligations.RenderPropertiesOfEveryConfiguration := by
  rintro cfg ⟨-, -, -, hsym, hends, hmono, -, -⟩
  have hblank {c : CharWord} := renderPulses_blank hsym hends (c := c)
  refine ⟨fun c => ?entries, fun c => hblank, splitCell_symbols hsym, fun k => ?bothCases,
    renderChar_of_no_scaler, fun hscaler c => ⟨_, _, renderChar_of_scaler hscaler c, rfl, rfl⟩,
    fun hdecided => ?duties⟩
  case entries =>
    obtain ⟨j, k, hpulses⟩ := exists_renderPulses_eq_pwRom cfg c
    obtain ⟨hjlow, hjhigh⟩ := pwRom_range hends hmono j
    exact ⟨j, k, hpulses, hjlow, hjhigh, pwRom_range hends hmono k⟩
  case bothCases =>
    have hcell := encodeCell_upper_eq_lower cfg k
    exact ⟨renderPulses_congr hcell, renderChar_congr hcell⟩
  case duties =>
    have hfirst : dutyValue Config.chip 844 = 2765 := rfl
    have hlast : dutyValue Config.chip 2094 = 6861 := rfl
    rw [dutyValue_eq_chip hdecided]
    refine ⟨⟨hfirst, hlast⟩, fun c => ?_, fun hscaler c hc => ?_⟩
    · obtain ⟨hhi, hlo⟩ := renderPulses_range hends hmono c
      obtain ⟨hlow, hhigh⟩ := dutyValue_chip_range hhi
      exact ⟨hlow, hhigh, dutyValue_chip_range hlo⟩
    · rw [renderChar_of_scaler hscaler, hblank hc, dutyValue_eq_chip hdecided, hfirst]

end Sys2Proof.Machine

/-! PROOFS. The decoder and the encoder: the two decode maps row by row, and the round trip in both directions
(30_encoding.md R34, R42 to R44). -/

namespace Sys2Proof

/-! The codes that the encoding column of the table names. -/

theorem toNat_letterCode (k : Fin 26) (f : Bool) :
    (letterCode k f).toNat = (if f then 0x61 else 0x41) + k.val := by decide +revert

theorem toNat_digitCode (k : Fin 10) : (digitCode k).toNat = 0x30 + k.val := by decide +revert

theorem toNat_pulseCode (k : Fin 8) : (pulseCode k).toNat = k.val := by decide +revert

/-- A word is a letter's code, in the case that its bit 5 tells, exactly when it is one of the letter's two codes. -/
theorem eq_letterCode_iff {k : Fin 26} {w : CharWord} :
    w = letterCode k (w.getLsbD 5) ↔ w.toNat = 0x41 + k.val ∨ w.toNat = 0x61 + k.val := by
  have hcaseBit (f : Bool) : (letterCode k f).getLsbD 5 = f := by decide +revert
  rw [← BitVec.toNat_inj, toNat_letterCode]
  constructor
  · cases w.getLsbD 5
    · exact .inl
    · exact .inr
  · have heq (f : Bool) (h : w.toNat = (letterCode k f).toNat) : w.getLsbD 5 = f := by
      rw [BitVec.eq_of_toNat_eq h, hcaseBit]
    rintro (h | h)
    · rw [heq false (h.trans (toNat_letterCode k false).symm)]
      exact h
    · rw [heq true (h.trans (toNat_letterCode k true).symm)]
      exact h

/-! The rows of a decode map. -/

/-- A row is sound for a port when the instruction it builds is well formed and is presented by the very word that the
row covers. -/
def DecodeRow.SoundFor (f : Format) (r : DecodeRow) : Prop :=
  ∀ w, r.covers w = true → (r.build w).wellFormed = true ∧ encode (r.build w) = ⟨f, [w]⟩

/-- What mask 0xDF takes from a word is its bit 5. -/
theorem eq_masked_or_caseBit (w : CharWord) : w = w &&& 0xDF ||| bif w.getLsbD 5 then 0x20 else 0 := by
  decide +kernel +revert

/-- Mask 0xDF leaves the case bit free (R42): the masked word is a letter's upper-case code exactly when the word is
that letter in one of its cases, and then bit 5 tells which. -/
theorem masked_eq_letterCode_iff {k : Fin 26} {w : CharWord} :
    w &&& 0xDF = letterCode k false ↔ w = letterCode k (w.getLsbD 5) := by
  have hcase (f : Bool) : letterCode k f = letterCode k false ||| bif f then 0x20 else 0 := by decide +revert
  have hmask (f : Bool) : letterCode k f &&& 0xDF = letterCode k false := by decide +revert
  constructor
  · intro h
    rw [hcase, ← h]
    exact eq_masked_or_caseBit w
  · intro h
    rw [h, hmask]

theorem letterRow_soundFor {k : Fin 26} {b : Bool → Instr} {v : CharWord}
    (hb : ∀ f, (b f).wellFormed = true ∧ encode (b f) = ⟨.decodeChar8, [letterCode k f]⟩)
    (hv : v = letterCode k false) : (letterRow v b).SoundFor .decodeChar8 := by
  subst hv
  intro w hw
  have hbuild := hb (w.getLsbD 5)
  rwa [← masked_eq_letterCode_iff.mp (eq_of_beq hw)] at hbuild

/-- A row of one value builds its instruction from that value alone. -/
theorem exactRow_soundFor {f : Format} {v : BitVec 8} {i : Instr}
    (hi : i.wellFormed = true ∧ encode i = ⟨f, [v]⟩) : (exactRow v i).SoundFor f := by
  intro w hw
  have hmask : w &&& 0xFF = v := eq_of_beq hw
  have hw : w = v := (BitVec.and_allOnes (x := w)).symm.trans hmask
  rwa [hw]

/-- Every row of R42 before the fallback row is sound for char_in. -/
theorem charRows_soundFor : ∀ r ∈ charRows, r.SoundFor .decodeChar8 := by
  intro r hr
  rw [charRows, List.mem_append, List.mem_append] at hr
  obtain (hletter | hdigit) | hsymbol := hr
  · fin_cases hletter <;> exact letterRow_soundFor (fun _ => ⟨rfl, rfl⟩) rfl
  · fin_cases hdigit <;> exact exactRow_soundFor ⟨rfl, rfl⟩
  · fin_cases hsymbol <;> exact exactRow_soundFor ⟨rfl, rfl⟩

/-- Every row of R43 before the fallback row is sound for idx_in. -/
theorem idxRows_soundFor : ∀ r ∈ idxRows, r.SoundFor .decodeIdx8 := by
  intro r hr
  fin_cases hr <;> exact exactRow_soundFor ⟨rfl, rfl⟩

/-! The words that no row before the fallback row covers. -/

/-- Rows of one mask cover a word together exactly when the masked word is a value of theirs. -/
theorem not_covered_iff {rows : List DecodeRow} {m : BitVec 8} (hmask : ∀ r ∈ rows, r.mask = m) (w : BitVec 8) :
    (∀ r ∈ rows, r.covers w = false) ↔ w &&& m ∉ rows.map DecodeRow.value := by
  have hcovers : ∀ r ∈ rows, (r.covers w = false ↔ r.value ≠ w &&& m) := fun r hr => by
    rw [DecodeRow.covers, hmask r hr, beq_eq_false_iff_ne, ne_comm]
  simp only [List.mem_map, not_exists, not_and]
  exact forall₂_congr hcovers

/-- Rows of one value each cover these values and no other word. -/
theorem not_covered_iff_of_exact {rows : List DecodeRow} (hmask : ∀ r ∈ rows, r.mask = 0xFF) (w : BitVec 8) :
    (∀ r ∈ rows, r.covers w = false) ↔ w ∉ rows.map DecodeRow.value := by
  rw [not_covered_iff hmask, show w &&& 0xFF = w from BitVec.and_allOnes]

theorem letterRows_not_covered_iff (c : CharWord) :
    (∀ r ∈ letterRows, r.covers c = false) ↔
      ∀ k : Fin 26, c.toNat ≠ 0x41 + k.val ∧ c.toNat ≠ 0x61 + k.val := by
  have hvalues : letterRows.map DecodeRow.value = (List.finRange 26).map (letterCode · false) := by decide
  rw [not_covered_iff (m := 0xDF) (by decide), hvalues]
  simp only [List.mem_map, List.mem_finRange, true_and, not_exists]
  refine forall_congr' fun k => ?_
  rw [eq_comm, masked_eq_letterCode_iff, eq_letterCode_iff, not_or]

theorem digitRows_not_covered_iff (c : CharWord) :
    (∀ r ∈ digitRows, r.covers c = false) ↔ ∀ k : Fin 10, c.toNat ≠ 0x30 + k.val := by
  have hvalues : digitRows.map DecodeRow.value = (List.finRange 10).map digitCode := by decide
  rw [not_covered_iff_of_exact (by decide), hvalues]
  simp only [List.mem_map, List.mem_finRange, true_and, not_exists, ← toNat_digitCode, ne_eq, BitVec.toNat_inj,
    eq_comm]

/-- The 189 codes of R51 are the codes that no row of R42 before the fallback row covers. -/
theorem isFallbackCode_iff_not_covered (c : CharWord) :
    isFallbackCode c = true ↔ ∀ r ∈ charRows, r.covers c = false := by
  rw [Machine.isFallbackCode_iff, charRows, List.forall_mem_append, List.forall_mem_append, and_assoc,
    letterRows_not_covered_iff, digitRows_not_covered_iff, not_covered_iff_of_exact (rows := symbolRows) (by decide)]
  rfl

/-- The indices above 7 are those that no row of R43 before the fallback row covers. -/
theorem seven_lt_iff_not_covered (i : IdxWord) : 7 < i.toNat ↔ ∀ r ∈ idxRows, r.covers i = false := by
  have hvalues : idxRows.map DecodeRow.value = (List.finRange 8).map pulseCode := by decide
  rw [not_covered_iff_of_exact (by decide), hvalues]
  simp only [List.mem_map, List.mem_finRange, true_and, not_exists, ← BitVec.toNat_inj, toNat_pulseCode]
  exact ⟨fun h k => by omega, fun h => by
    by_contra hle
    exact h ⟨i.toNat, by omega⟩ rfl⟩

/-! The search of a decode map. -/

/-- What `firstMatch` can answer: a covering row's instruction, or the fallback row's where no row covers the word. -/
theorem firstMatch_cases (rows : List DecodeRow) (fallback : BitVec 8 → Instr) (w : BitVec 8) :
    (∃ r ∈ rows, r.covers w = true ∧ firstMatch rows fallback w = r.build w) ∨
    ((∀ r ∈ rows, r.covers w = false) ∧ firstMatch rows fallback w = fallback w) := by
  unfold firstMatch
  cases hfind : rows.find? (fun r => r.covers w) with
  | some r =>
    have hcovers : r.covers w = true := List.find?_some (p := (DecodeRow.covers · w)) hfind
    exact .inl ⟨r, List.mem_of_find?_eq_some hfind, hcovers, rfl⟩
  | none => exact .inr ⟨fun r hr => Bool.eq_false_of_not_eq_true (List.find?_eq_none.mp hfind r hr), rfl⟩

theorem firstMatch_of_not_covered {rows : List DecodeRow} {fallback : BitVec 8 → Instr} {w : BitVec 8}
    (h : ∀ r ∈ rows, r.covers w = false) : firstMatch rows fallback w = fallback w := by
  obtain ⟨r, hr, hcovers, -⟩ | ⟨-, hfallback⟩ := firstMatch_cases rows fallback w
  · exact absurd hcovers (by simp [h r hr])
  · exact hfallback

/-- A map of sound rows, with a fallback row that is sound for the words left over, reads every word as an instruction
that this word presents. -/
theorem firstMatch_sound {rows : List DecodeRow} {fallback : BitVec 8 → Instr} {f : Format}
    (hrows : ∀ r ∈ rows, r.SoundFor f)
    (hfallback : ∀ w, (∀ r ∈ rows, r.covers w = false) →
      (fallback w).wellFormed = true ∧ encode (fallback w) = ⟨f, [w]⟩) (w : BitVec 8) :
    (firstMatch rows fallback w).wellFormed = true ∧ encode (firstMatch rows fallback w) = ⟨f, [w]⟩ := by
  obtain ⟨r, hr, hcovers, hbuild⟩ | ⟨hnone, hbuild⟩ := firstMatch_cases rows fallback w
  · rw [hbuild]
    exact hrows r hr w hcovers
  · rw [hbuild]
    exact hfallback w hnone

theorem decodeChar_sound (c : CharWord) :
    (decodeChar c).wellFormed = true ∧ encode (decodeChar c) = ⟨.decodeChar8, [c]⟩ :=
  firstMatch_sound (fallback := .encFallback) charRows_soundFor
    (fun c h => ⟨(isFallbackCode_iff_not_covered c).mpr h, rfl⟩) c

theorem decodeIdx_sound (j : IdxWord) :
    (decodeIdx j).wellFormed = true ∧ encode (decodeIdx j) = ⟨.decodeIdx8, [j]⟩ :=
  firstMatch_sound (fallback := .pwlFallback) idxRows_soundFor
    (fun j h => ⟨decide_eq_true ((seven_lt_iff_not_covered j).mpr h), rfl⟩) j

/-! The operand words that are cut into bytes or carried in one. -/

/-- The two bytes of a pulse width, joined again. -/
theorem append_extractLsb'_bytes (p : PulseWord) : p.extractLsb' 8 8 ++ p.extractLsb' 0 8 = p := by
  apply BitVec.eq_of_toNat_eq
  have hp := p.isLt
  rw [toNat_append_bytes, BitVec.extractLsb'_toNat, BitVec.extractLsb'_toNat, Nat.shiftRight_eq_div_pow,
    Nat.shiftRight_zero]
  omega

theorem extractLsb'_append_low (hi lo : Byte) : (hi ++ lo : BitVec 16).extractLsb' 0 8 = lo := by
  apply BitVec.eq_of_toNat_eq
  rw [BitVec.extractLsb'_toNat, toNat_append_bytes, Nat.shiftRight_zero]
  omega

theorem extractLsb'_append_high (hi lo : Byte) : (hi ++ lo : BitVec 16).extractLsb' 8 8 = hi := by
  apply BitVec.eq_of_toNat_eq
  rw [BitVec.extractLsb'_toNat, toNat_append_bytes, Nat.shiftRight_eq_div_pow]
  omega

/-- The byte that carries a cell code (R16, D17) is read as that cell code. -/
theorem decodeCell_setWidth (v : CellCode) : decodeCell (v.setWidth 8) = .ok (.split v) := by
  have hv := v.isLt
  rw [decodeCell_eq_ok, BitVec.toNat_setWidth, BitVec.setWidth_setWidth_of_le v (by decide), BitVec.setWidth_eq]
  exact ⟨by omega, rfl⟩

theorem setWidth_cell_byte {b : Byte} (h : b.toNat < 64) : (b.setWidth 6).setWidth 8 = b := by
  apply BitVec.eq_of_toNat_eq
  rw [BitVec.toNat_setWidth, BitVec.toNat_setWidth]
  omega

/-! The round trip. -/

/-- Settles O41: an operation by the bytes of its operand; a fallback row because no other row covers its operand; every
other row on the one or two words that its encoding names. -/
theorem decodeOfEncode : Obligations.DecodeOfEncode := by
  intro i hwf
  cases i with
  | encode c => rfl
  | pwlookup j => rfl
  | duty p => exact congrArg (Except.ok ∘ Instr.duty) (append_extractLsb'_bytes p)
  | split v => exact decodeCell_setWidth v
  | encFallback c =>
    exact congrArg Except.ok (firstMatch_of_not_covered ((isFallbackCode_iff_not_covered c).mp hwf))
  | pwlFallback j =>
    exact congrArg Except.ok (firstMatch_of_not_covered ((seven_lt_iff_not_covered j).mp (of_decide_eq_true hwf)))
  | encDigit0 | encDigit1 | encDigit2 | encDigit3 | encDigit4 | encDigit5 | encDigit6 | encDigit7 | encDigit8
  | encDigit9 | encSymSpace | encSymPeriod | encSymComma | encSymQuestion | encSymExclam
  | pwl0 | pwl1 | pwl2 | pwl3 | pwl4 | pwl5 | pwl6 | pwl7 => rfl
  | _ f => cases f <;> rfl

/-- Settles O42: an operand word is read by one row, and that row is sound for its port. -/
theorem encodeOfDecode : Obligations.EncodeOfDecode := by
  rintro ⟨format, bytes⟩ i h
  cases format with
  | operationChar8 =>
    obtain ⟨c, rfl, hi⟩ := oneByte_eq_ok.mp h
    cases hi
    exact ⟨rfl, rfl⟩
  | operationIdx8 =>
    obtain ⟨j, rfl, hi⟩ := oneByte_eq_ok.mp h
    cases hi
    exact ⟨rfl, rfl⟩
  | operationPw16 =>
    obtain ⟨lo, hi, rfl, hp⟩ := twoBytes_eq_ok (k := fun p => .ok (.duty p)).mp h
    cases hp
    exact ⟨rfl, by rw [encode, extractLsb'_append_low, extractLsb'_append_high]⟩
  | helperCell6 =>
    obtain ⟨b, rfl, hi⟩ := oneByte_eq_ok.mp h
    obtain ⟨hb, rfl⟩ := decodeCell_eq_ok.mp hi
    exact ⟨rfl, by rw [encode, setWidth_cell_byte hb]⟩
  | decodeChar8 =>
    obtain ⟨c, rfl, hi⟩ := oneByte_eq_ok.mp h
    cases hi
    exact decodeChar_sound c
  | decodeIdx8 =>
    obtain ⟨j, rfl, hi⟩ := oneByte_eq_ok.mp h
    cases hi
    exact decodeIdx_sound j

/-! Which requests decode. -/

/-- A one-byte port whose every word is an operand rejects nothing but a wrong number of bytes. -/
theorem exists_oneByte_eq_ok_iff {k : Byte → Instr} {bytes : List Byte} :
    (∃ i, oneByte (fun b => .ok (k b)) bytes = .ok i) ↔ bytes.length = 1 := by
  simp only [oneByte_eq_ok, List.length_eq_one_iff]
  constructor
  · rintro ⟨-, b, hbytes, -⟩
    exact ⟨b, hbytes⟩
  · rintro ⟨b, hbytes⟩
    exact ⟨k b, b, hbytes, rfl⟩

theorem exists_twoBytes_eq_ok_iff {k : BitVec 16 → Instr} {bytes : List Byte} :
    (∃ i, twoBytes (fun w => .ok (k w)) bytes = .ok i) ↔ bytes.length = 2 := by
  simp only [twoBytes_eq_ok, List.length_eq_two]
  constructor
  · rintro ⟨-, lo, hi, hbytes, -⟩
    exact ⟨lo, hi, hbytes⟩
  · rintro ⟨lo, hi, hbytes⟩
    exact ⟨k (hi ++ lo), lo, hi, hbytes, rfl⟩

/-- The port of SPLIT rejects a byte above 63 too (R16, D17). -/
theorem exists_oneByte_decodeCell_eq_ok_iff {bytes : List Byte} :
    (∃ i, oneByte decodeCell bytes = .ok i) ↔ bytes.length = 1 ∧ ∀ b ∈ bytes, b.toNat < 64 := by
  simp only [oneByte_eq_ok, decodeCell_eq_ok, List.length_eq_one_iff]
  constructor
  · rintro ⟨-, b, rfl, hb, -⟩
    exact ⟨⟨b, rfl⟩, List.forall_mem_singleton.mpr hb⟩
  · rintro ⟨⟨b, rfl⟩, hb⟩
    exact ⟨_, b, rfl, hb b (List.mem_singleton_self b), rfl⟩

/-- Settles O43: format by format; the clause on cell codes is void on the other five. -/
theorem decodeRejectsOnlyMalformedRequests : Obligations.DecodeRejectsOnlyMalformedRequests := by
  rintro ⟨format, bytes⟩
  cases format with
  | operationPw16 => exact exists_twoBytes_eq_ok_iff.trans (iff_self_and.mpr fun _ => nofun)
  | helperCell6 =>
    exact exists_oneByte_decodeCell_eq_ok_iff.trans (and_congr_right' ⟨fun hb _ => hb, fun hb => hb rfl⟩)
  | _ => exact exists_oneByte_eq_ok_iff.trans (iff_self_and.mpr fun _ => nofun)

/-! Disjoint rows. -/

/-- Two rows that cover one word have values that agree on the bits that both masks read. -/
theorem value_and_mask_eq_of_covers {r q : DecodeRow} {w : BitVec 8} (hr : r.covers w = true) (hq : q.covers w = true) :
    r.value &&& q.mask = q.value &&& r.mask := by
  have hrvalue : w &&& r.mask = r.value := eq_of_beq hr
  have hqvalue : w &&& q.mask = q.value := eq_of_beq hq
  rw [← hrvalue, ← hqvalue, BitVec.and_assoc, BitVec.and_assoc, BitVec.and_comm r.mask]

theorem length_filter_covers_le_one {rows : List DecodeRow}
    (hdisjoint : rows.Pairwise fun r q => r.value &&& q.mask ≠ q.value &&& r.mask) (w : BitVec 8) :
    (rows.filter fun r => r.covers w).length ≤ 1 := by
  have hpairwise := hdisjoint.filter fun r => r.covers w
  have hcovers : ∀ r ∈ rows.filter fun r => r.covers w, r.covers w = true := fun r hr => (List.mem_filter.mp hr).2
  generalize rows.filter (fun r => r.covers w) = covering at hpairwise hcovers
  match covering with
  | [] => exact Nat.zero_le 1
  | [_] => exact Nat.le_refl 1
  | r :: q :: rest =>
    obtain ⟨hdiffer, -⟩ := List.pairwise_cons.mp hpairwise
    exact absurd (value_and_mask_eq_of_covers (hcovers r (by simp)) (hcovers q (by simp))) (hdiffer q (by simp))

/-- Settles O8: the values of any two rows differ in a bit that both masks read. -/
theorem decodeRowsAreDisjoint : Obligations.DecodeRowsAreDisjoint :=
  fun w => ⟨length_filter_covers_le_one (by decide) w, length_filter_covers_le_one (by decide) w⟩

/-- Settles O44: each word read bit by bit. -/
theorem decodeSampleWords : Obligations.DecodeSampleWords := by
  unfold Obligations.DecodeSampleWords
  decide

end Sys2Proof

/-! PROOFS. The instructions: the port pair that each drives, and the operation that each row is an arm of
(10_state.md R16, R17; 30_encoding.md R42, R43; 60_exceptions.md R83; 70_reset_and_hazards.md R99 to R101). -/

namespace Sys2Proof.Machine

/-! An instruction as the words it drives on the ports of its unit. -/

/-- One port pair, or the caller's SPLIT words, with the words driven on it. -/
inductive PortDrive where
  | char (c : CharWord) (v : CellCode)
  | idx (j : IdxWord) (p : PulseWord)
  | scaler (p : PulseWord) (d : DutyWord)
  | split (v : CellCode)

/-- The unit that the ports belong to. -/
def PortDrive.unit : PortDrive → PortUnit
  | .char _ _ => .encoder
  | .idx _ _ => .lookup
  | .scaler _ _ => .scaler
  | .split _ => .caller

/-- The state with the words on the ports. -/
def PortDrive.apply (d : PortDrive) (s : State) : State :=
  match d with
  | .char c v => s.driveChar c v
  | .idx j p => s.driveIdx j p
  | .scaler p d => s.driveScaler p d
  | .split v => s.driveSplit v

@[simp] theorem PortDrive.apply_requests (d : PortDrive) (s : State) : (d.apply s).requests = s.requests := by
  cases d <;> rfl

/-- Only the DUTY unit's ports show in `scaler`, and driving them does not take them away. -/
theorem PortDrive.apply_scaler_isSome {d : PortDrive} {s : State}
    (h : d.unit = .scaler → s.scaler.isSome = true) : (d.apply s).scaler.isSome = s.scaler.isSome := by
  cases d with
  | scaler p d => exact (h rfl).symm
  | _ => rfl

/-- Driving the same words again changes nothing. -/
theorem PortDrive.apply_apply_self (d : PortDrive) (s : State) : d.apply (d.apply s) = d.apply s := by
  cases d <;> rfl

/-- Different units have different ports. -/
theorem PortDrive.apply_comm {d e : PortDrive} (h : d.unit ≠ e.unit) (s : State) :
    d.apply (e.apply s) = e.apply (d.apply s) := by
  cases d <;> cases e
  case char.char | idx.idx | scaler.scaler | split.split => exact absurd rfl h
  all_goals rfl

/-- Presence of a unit is a matter of the DUTY unit's ports alone. -/
theorem unitPresent_congr {i : Instr} {s t : State} (h : t.scaler.isSome = s.scaler.isSome) :
    UnitPresent i t ↔ UnitPresent i s := by
  rw [UnitPresent, UnitPresent, h]

theorem unitPresent_duty {p : PulseWord} {s : State} : UnitPresent (.duty p) s ↔ s.scaler.isSome = true :=
  forall_prop_of_true rfl

/-- R64: no DUTY unit, no DUTY operation. -/
theorem exec_duty_of_absent {p : PulseWord} {s : State} (h : s.scaler = none) :
    exec (.duty p) s = .refused .scalerAbsent := by
  simp only [exec, execDuty, h]

/-- Settles O17. -/
theorem dutyAbsentIsRefused : Obligations.DutyAbsentIsRefused :=
  fun _ _ => exec_duty_of_absent

/-- What an instruction can do (R83): where the block has its unit, it drives words on the unit's ports that do not
depend on the state; where the block has not, it is refused. -/
theorem exec_drive (i : Instr) : ∃ d : PortDrive, d.unit = instrUnit i ∧
    (∀ s t, exec i s = .next t ↔ UnitPresent i s ∧ d.apply s = t) ∧
    (∀ s, ¬ UnitPresent i s → exec i s = .refused .scalerAbsent) := by
  have hfree {d : PortDrive} (hunit : instrUnit i ≠ .scaler) (h : ∀ s, exec i s = .next (d.apply s)) :
      (∀ s t, exec i s = .next t ↔ UnitPresent i s ∧ d.apply s = t) ∧
      (∀ s, ¬ UnitPresent i s → exec i s = .refused .scalerAbsent) := by
    have hpresent (s : State) : UnitPresent i s := fun hscaler => absurd hscaler hunit
    exact ⟨fun s t => by simp [h, hpresent s], fun s habsent => absurd (hpresent s) habsent⟩
  obtain ⟨hunit, c, v, h⟩ | ⟨hunit, j, p, h⟩ | ⟨hunit, v, h⟩ | ⟨hunit, p, rfl⟩ := exec_effect i
  · exact ⟨.char c v, hunit.symm, hfree (by simp [hunit]) h⟩
  · exact ⟨.idx j p, hunit.symm, hfree (by simp [hunit]) h⟩
  · exact ⟨.split v, hunit.symm, hfree (by simp [hunit]) h⟩
  · refine ⟨.scaler p (dutyValue Config.chip p), hunit.symm, fun s t => ?_, fun s habsent => ?_⟩
    · rw [unitPresent_duty]
      cases hs : s.scaler with
      | none => simp [exec_duty_of_absent hs]
      | some u => simp [exec_duty_of_present hs, PortDrive.apply]
    · rw [unitPresent_duty, Option.not_isSome_iff_eq_none] at habsent
      exact exec_duty_of_absent habsent

/-- What every instruction leaves: the operations still waiting, and whether the DUTY unit is there. -/
theorem exec_keeps_requests_and_presence {i : Instr} {s t : State} (h : exec i s = .next t) :
    t.requests = s.requests ∧ t.scaler.isSome = s.scaler.isSome := by
  obtain ⟨d, hunit, hnext, -⟩ := exec_drive i
  obtain ⟨hpresent, rfl⟩ := (hnext s t).mp h
  exact ⟨d.apply_requests s, PortDrive.apply_scaler_isSome (hunit ▸ hpresent)⟩

/-- Settles O27. -/
theorem execAlwaysCompletes : Obligations.ExecAlwaysCompletes := by
  intro i s hpresent
  obtain ⟨d, -, hnext, -⟩ := exec_drive i
  exact ⟨d.apply s, (hnext s _).mpr ⟨hpresent, rfl⟩⟩

/-- Settles O28: by the ports that the instruction drives; the clauses of the other units do not apply. -/
theorem instructionWritesOnlyItsUnit : Obligations.InstructionWritesOnlyItsUnit := by
  intro i s t h
  obtain ⟨d, hunit, hnext, -⟩ := exec_drive i
  obtain ⟨hpresent, rfl⟩ := (hnext s t).mp h
  rw [UnitPresent] at hpresent
  rw [← hunit] at hpresent ⊢
  cases d with
  | char c v => exact ⟨fun _ => rfl, nofun, nofun, nofun⟩
  | idx j p => exact ⟨nofun, fun _ => rfl, nofun, nofun⟩
  | scaler p d => exact ⟨nofun, nofun, fun h => ⟨rfl, hpresent h, rfl⟩, nofun⟩
  | split v => exact ⟨nofun, nofun, nofun, fun _ => rfl⟩

/-- Settles O30: the unit is still there, and the same words are driven again. -/
theorem instructionsAreIdempotent : Obligations.InstructionsAreIdempotent := by
  intro i s t h
  obtain ⟨-, hpresence⟩ := exec_keeps_requests_and_presence h
  obtain ⟨d, -, hnext, -⟩ := exec_drive i
  obtain ⟨hpresent, rfl⟩ := (hnext s t).mp h
  exact (hnext _ _).mpr ⟨(unitPresent_congr hpresence).mpr hpresent, d.apply_apply_self s⟩

/-- Settles O29: where the block has both units, the two drives commute; where one is missing, both orders are
refused. -/
theorem operationsOfDifferentUnitsCommute : Obligations.OperationsOfDifferentUnitsCommute := by
  intro i j s hne
  obtain ⟨d, hd, hi, hiabsent⟩ := exec_drive i
  obtain ⟨e, he, hj, hjabsent⟩ := exec_drive j
  have hdkeeps (hp : UnitPresent i s) : UnitPresent j (d.apply s) ↔ UnitPresent j s :=
    unitPresent_congr (PortDrive.apply_scaler_isSome (hd ▸ hp))
  have hekeeps (hp : UnitPresent j s) : UnitPresent i (e.apply s) ↔ UnitPresent i s :=
    unitPresent_congr (PortDrive.apply_scaler_isSome (he ▸ hp))
  by_cases hpi : UnitPresent i s <;> by_cases hpj : UnitPresent j s
  · rw [(hi s _).mpr ⟨hpi, rfl⟩, (hj s _).mpr ⟨hpj, rfl⟩, andThen_next, andThen_next,
      (hi _ _).mpr ⟨(hekeeps hpj).mpr hpi, rfl⟩, (hj _ _).mpr ⟨(hdkeeps hpi).mpr hpj, rfl⟩,
      PortDrive.apply_comm (by rwa [hd, he, ne_comm])]
  · rw [(hi s _).mpr ⟨hpi, rfl⟩, hjabsent s hpj, andThen_next, andThen_refused,
      hjabsent _ (mt (hdkeeps hpi).mp hpj)]
  · rw [(hj s _).mpr ⟨hpj, rfl⟩, hiabsent s hpi, andThen_next, andThen_refused,
      hiabsent _ (mt (hekeeps hpj).mp hpi)]
  · rw [hiabsent s hpi, hjabsent s hpj, andThen_refused, andThen_refused]

/-! A row as an arm of its operation (R42, R43). -/

theorem exec_split (v : CellCode) (s : State) : exec (.split v) s = .next (s.driveSplit v) := rfl

/-- The arm of a letter is ENCODE of its code (R48). -/
theorem next_letterArm (k : Fin 26) (f : Bool) (s : State) :
    .next (letterArm k f s) = exec (.encode (letterCode k f)) s := by
  have hcode : (letterCode k f).toNat = 0x41 + k.val ∨ (letterCode k f).toNat = 0x61 + k.val := by
    rw [toNat_letterCode]
    cases f
    · exact .inl rfl
    · exact .inr rfl
  rw [exec_encode, encodeCell_letter Config.chip hcode]
  rfl

/-- The arm of a digit is ENCODE of its code (R49). -/
theorem next_digitArm (k : Fin 10) (s : State) : .next (digitArm k s) = exec (.encode (digitCode k)) s := by
  rw [exec_encode, encodeCell_digit Config.chip (toNat_digitCode k)]
  rfl

/-- The in-range arm is PWLOOKUP of its index (R59). -/
theorem next_pulseArm (k : Fin 8) (s : State) : .next (pulseArm k s) = exec (.pwlookup (pulseCode k)) s := by
  rw [exec_pwlookup, pulseWidth_inRange Config.chip (toNat_pulseCode k)]
  rfl

/-- The fallback row is ENCODE of a fallback code (R51). -/
theorem exec_encFallback {c : CharWord} (h : isFallbackCode c = true) (s : State) :
    exec (.encFallback c) s = exec (.encode c) s := by
  rw [exec_encode, encodeCell_fallback Config.chip h]
  rfl

/-- The out-of-range row is PWLOOKUP of an index above 7 (R60). -/
theorem exec_pwlFallback {j : IdxWord} (h : 7 < j.toNat) (s : State) :
    exec (.pwlFallback j) s = exec (.pwlookup j) s := by
  rw [exec_pwlookup, pulseWidth_outOfRange Config.chip h]
  rfl

/-- Every well-formed instruction does, from every state, what one of the four operations does; ENCODE and PWLOOKUP on
the operand word that the instruction is presented by. -/
theorem exec_operation {i : Instr} (hwf : i.wellFormed = true) :
    (instrUnit i = .encoder ∧ ∃ c, (encode i).bytes = [c] ∧ ∀ s, exec i s = exec (.encode c) s) ∨
    (instrUnit i = .lookup ∧ ∃ j, (encode i).bytes = [j] ∧ ∀ s, exec i s = exec (.pwlookup j) s) ∨
    (∃ p, i = .duty p) ∨ (∃ v, i = .split v) := by
  cases i with
  | encode c => exact .inl ⟨rfl, c, rfl, fun _ => rfl⟩
  | pwlookup j => exact .inr (.inl ⟨rfl, j, rfl, fun _ => rfl⟩)
  | duty p => exact .inr (.inr (.inl ⟨p, rfl⟩))
  | split v => exact .inr (.inr (.inr ⟨v, rfl⟩))
  | encFallback c => exact .inl ⟨rfl, c, rfl, exec_encFallback hwf⟩
  | pwlFallback j => exact .inr (.inl ⟨rfl, j, rfl, exec_pwlFallback (of_decide_eq_true hwf)⟩)
  | encDigit0 | encDigit1 | encDigit2 | encDigit3 | encDigit4 | encDigit5 | encDigit6 | encDigit7 | encDigit8
  | encDigit9 => exact .inl ⟨rfl, _, rfl, next_digitArm _⟩
  | encSymSpace | encSymPeriod | encSymComma | encSymQuestion | encSymExclam =>
    exact .inl ⟨rfl, _, rfl, fun _ => rfl⟩
  | pwl0 | pwl1 | pwl2 | pwl3 | pwl4 | pwl5 | pwl6 | pwl7 =>
    exact .inr (.inl ⟨rfl, _, rfl, next_pulseArm _⟩)
  | _ f => exact .inl ⟨rfl, _, rfl, next_letterArm _ f⟩

/-- Settles O6: the row that reads a code is presented by that code, so it is ENCODE of it. -/
theorem charRowsAgreeWithEncode : Obligations.CharRowsAgreeWithEncode := by
  intro c
  obtain ⟨hwf, henc⟩ := decodeChar_sound c
  refine ⟨decodeChar c, rfl, hwf, ?_⟩
  have hunit : instrUnit (decodeChar c) = .encoder := by rw [instrUnit, henc]
  obtain ⟨-, c', hc', hexec⟩ | ⟨hlookup, -⟩ | ⟨p, hduty⟩ | ⟨v, hsplit⟩ := exec_operation hwf
  · rw [henc] at hc'
    cases hc'
    exact hexec
  · simp [hunit] at hlookup
  · simp [hduty, encode] at henc
  · simp [hsplit, encode] at henc

/-- Settles O14: the row that reads an index is presented by that index, so it is PWLOOKUP of it. -/
theorem idxRowsAgreeWithPwlookup : Obligations.IdxRowsAgreeWithPwlookup := by
  intro j
  obtain ⟨hwf, henc⟩ := decodeIdx_sound j
  refine ⟨decodeIdx j, rfl, hwf, ?_⟩
  have hunit : instrUnit (decodeIdx j) = .lookup := by rw [instrUnit, henc]
  obtain ⟨hencoder, -⟩ | ⟨-, j', hj', hexec⟩ | ⟨p, hduty⟩ | ⟨v, hsplit⟩ := exec_operation hwf
  · simp [hunit] at hencoder
  · rw [henc] at hj'
    cases hj'
    exact hexec
  · simp [hduty, encode] at henc
  · simp [hsplit, encode] at henc

/-! The rows, each with the state it answers (R48 to R51, R59, R60). -/

/-- Settles O2: each row is its letter's arm, and the case bit tells which of the two codes it drives. -/
theorem letterRowsGiveLetterRom : Obligations.LetterRowsGiveLetterRom := by
  intro f s
  cases f <;> and_intros <;> rfl

/-- Settles O3: each row is its digit's arm. -/
theorem digitRowsGiveDigitRom : Obligations.DigitRowsGiveDigitRom := by
  intro s
  and_intros <;> rfl

/-- Settles O4: the constants are those of R6. -/
theorem symbolRowsGiveTheirConstants : Obligations.SymbolRowsGiveTheirConstants := by
  intro s
  and_intros <;> rfl

/-- Settles O5: the row is ENCODE of a fallback code. -/
theorem encFallbackGivesBlank : Obligations.EncFallbackGivesBlank := by
  intro c s hwf
  rw [exec_encFallback hwf, exec_encode, encodeCell_fallback Config.chip hwf, chip_cellBlank]

/-- Settles O12: each row is its index's arm. -/
theorem pulseRowsGivePwRom : Obligations.PulseRowsGivePwRom := by
  intro s
  and_intros <;> rfl

/-- Settles O13: the row is PWLOOKUP of an index above 7. -/
theorem pwlFallbackGivesHome : Obligations.PwlFallbackGivesHome := by
  intro j s hwf
  have hout : 7 < j.toNat := of_decide_eq_true hwf
  rw [exec_pwlFallback hout, exec_pwlookup, pulseWidth_outOfRange Config.chip hout, chip_pwRom_zero]

end Sys2Proof.Machine

/-! PROOFS. Steps and runs: what one step keeps, and what a run through the caller's operations shows (10_state.md R10,
R16, R17; 42_pipeline_composition.md R78; 70_reset_and_hazards.md R97, R99, R100). -/

namespace Sys2Proof.Machine

/-! One step. -/

/-- Settles O31. -/
theorem stepRunsTheDecodedInstruction : Obligations.StepRunsTheDecodedInstruction :=
  fun _ r _ i hr hd => ⟨(encodeOfDecode r i hd).1, step_of_decode hr hd⟩

/-- Settles O32. -/
theorem stepWithoutRequestChangesNothing : Obligations.StepWithoutRequestChangesNothing := by
  intro s hnil
  simp only [step, takeRequest_nil hnil]

/-- Settles O33. -/
theorem stepRefusesUndecodableRequest : Obligations.StepRefusesUndecodableRequest := by
  intro s r rest why hr hwhy
  simp only [step, takeRequest_cons hr, hwhy]

/-- A bare word that is read as an instruction stands for a request that decodes to it. -/
theorem decodeTableWord_eq_some {nbits w : Nat} {i : Instr} (h : decodeTableWord nbits w = some i) :
    ∃ r, tableRequest nbits w = some r ∧ decode r = .ok i := by
  unfold decodeTableWord at h
  split at h
  case h_1 => nomatch h
  case h_2 r hr =>
    split at h
    case h_1 j hd =>
      cases h
      exact ⟨r, hr, hd⟩
    case h_2 => nomatch h

/-- Settles O34: the placed request is the oldest, and the step takes it again. -/
theorem tableWordRunsAsNextInstruction : Obligations.TableWordRunsAsNextInstruction := by
  intro s nbits w i h
  obtain ⟨r, hr, hd⟩ := decodeTableWord_eq_some h
  have hplaced : s.withFetchWord nbits w = s.withRequests (r :: s.requests) := by
    simp only [State.withFetchWord, hr]
  rw [hplaced]
  exact ⟨(encodeOfDecode r i hd).1, step_of_decode rfl hd⟩

/-- Settles O38: by what the step can have done and what an instruction leaves. -/
theorem stepTakesOldestRequestIfAny : Obligations.StepTakesOldestRequestIfAny := by
  intro s t h
  obtain ⟨hnil, rfl⟩ | ⟨r, rest, i, hr, -, hexec⟩ := step_cases h
  · exact ⟨fun r rest hcons => by simp [hnil] at hcons, fun _ => rfl, rfl⟩
  · obtain ⟨hrequests, hpresence⟩ := exec_keeps_requests_and_presence hexec
    refine ⟨fun r' rest' hcons => ?_, fun hnil => by simp [hr] at hnil, hpresence⟩
    obtain ⟨-, rfl⟩ := List.cons_eq_cons.mp (hr.symm.trans hcons)
    exact hrequests

/-! The two invariants. -/

/-- A DUTY that answers a next state drove its unit's ports. -/
theorem eq_driveScaler_of_exec_duty {p : PulseWord} {s t : State} (h : exec (.duty p) s = .next t) :
    t = s.driveScaler p (dutyValue Config.chip p) := by
  cases hs : s.scaler with
  | none => simp [exec_duty_of_absent hs] at h
  | some u =>
    rw [exec_duty_of_present hs] at h
    cases h
    rfl

/-- What a well-formed instruction that answers a next state did: it drove one operand word and the function of it. -/
theorem exec_eq_next_cases {i : Instr} {s t : State} (hwf : i.wellFormed = true) (h : exec i s = .next t) :
    (∃ c, t = s.driveChar c (encodeCell Config.chip c)) ∨
    (∃ j, t = s.driveIdx j (pulseWidth Config.chip j)) ∨
    (∃ p, t = s.driveScaler p (dutyValue Config.chip p)) ∨
    (∃ v, t = s.driveSplit v) := by
  obtain ⟨-, c, -, hexec⟩ | ⟨-, j, -, hexec⟩ | ⟨p, rfl⟩ | ⟨v, rfl⟩ := exec_operation hwf
  · rw [hexec] at h
    cases h
    exact .inl ⟨c, rfl⟩
  · rw [hexec] at h
    cases h
    exact .inr (.inl ⟨j, rfl⟩)
  · exact .inr (.inr (.inl ⟨p, eq_driveScaler_of_exec_duty h⟩))
  · rw [exec_split] at h
    cases h
    exact .inr (.inr (.inr ⟨v, rfl⟩))

/-- A property of states is an invariant of the step when taking a request keeps it and each of the four operations
does: every decoded row is one of them. -/
theorem step_keeps {P : State → Prop} {s t : State} (hs : P s) (h : step s = .next t)
    (hrequests : ∀ u rest, P u → P (u.withRequests rest))
    (hchar : ∀ u c, P u → P (u.driveChar c (encodeCell Config.chip c)))
    (hidx : ∀ u j, P u → P (u.driveIdx j (pulseWidth Config.chip j)))
    (hscaler : ∀ u p, P u → P (u.driveScaler p (dutyValue Config.chip p)))
    (hsplit : ∀ u v, P u → P (u.driveSplit v)) : P t := by
  obtain ⟨-, rfl⟩ | ⟨r, rest, i, -, hd, hexec⟩ := step_cases h
  · exact hs
  · have htaken := hrequests s rest hs
    obtain ⟨hwf, -⟩ := encodeOfDecode r i hd
    obtain ⟨c, rfl⟩ | ⟨j, rfl⟩ | ⟨p, rfl⟩ | ⟨v, rfl⟩ := exec_eq_next_cases hwf hexec
    · exact hchar _ c htaken
    · exact hidx _ j htaken
    · exact hscaler _ p htaken
    · exact hsplit _ v htaken

/-- Settles O36: each operation drives a result port with the function of the operand it drives, and leaves the other
port pairs as they were. -/
theorem stepKeepsResultPortsCoherent : Obligations.StepKeepsResultPortsCoherent := by
  intro s t hs h
  apply step_keeps hs h
  case hrequests => rintro u rest ⟨hcell, hpulse, hduty, hsplit⟩; exact ⟨hcell, hpulse, hduty, hsplit⟩
  case hchar => rintro u c ⟨-, hpulse, hduty, hsplit⟩; exact ⟨rfl, hpulse, hduty, hsplit⟩
  case hidx => rintro u j ⟨hcell, -, hduty, hsplit⟩; exact ⟨hcell, rfl, hduty, hsplit⟩
  case hscaler =>
    rintro u p ⟨hcell, hpulse, -, hsplit⟩
    exact ⟨hcell, hpulse, fun w hw => by cases hw; rfl, hsplit⟩
  case hsplit => rintro u v ⟨hcell, hpulse, hduty, -⟩; exact ⟨hcell, hpulse, hduty, rfl⟩

/-- R63 (a) for the modelled block. -/
theorem pulseWidth_chip_range (j : IdxWord) :
    844 ≤ (pulseWidth Config.chip j).toNat ∧ (pulseWidth Config.chip j).toNat ≤ 2094 :=
  pulseWidth_range ⟨chip_pwRom_zero, chip_pwRom_seven⟩ chip_pwMono j

/-- Settles O37: PWLOOKUP alone drives pw_out, with a pulse width of the table. -/
theorem stepKeepsPulseInRange : Obligations.StepKeepsPulseInRange := by
  intro s t hs h
  apply step_keeps hs h
  case hidx => exact fun _ j _ => pulseWidth_chip_range j
  all_goals exact fun _ _ hu => hu

/-- Settles O35: the operand ports carry zero and the result ports the functions of zero, by evaluation. -/
theorem resetPortsShowPowerUp : Obligations.ResetPortsShowPowerUp := by
  refine ⟨rfl, ⟨rfl, rfl, fun u hu => ?_, rfl⟩, ?_, fun d hd => ?_⟩
  · cases hu
    rfl
  · unfold State.PulseInRange
    decide
  · cases hd
    exact Nat.zero_le _

/-! Runs. -/

/-- A run goes through the decodable operations that wait for units the block has: all of them complete, the later ones
still wait, and the block has the units it had. -/
theorem run_through_requests {before rest : List Request} {s : State} (hs : s.requests = before ++ rest)
    (hbefore : ∀ r ∈ before, ∃ j, decode r = .ok j ∧ UnitPresent j s) :
    ∃ u, u.requests = rest ∧ u.scaler.isSome = s.scaler.isSome ∧
      ∀ k, Host.Core.run Sys2Proof.core (k + before.length) s = Host.Core.run Sys2Proof.core k u := by
  induction before generalizing s with
  | nil => exact ⟨s, hs, rfl, fun _ => rfl⟩
  | cons r before ih =>
    obtain ⟨⟨j, hd, hpresent⟩, hlater⟩ := List.forall_mem_cons.mp hbefore
    obtain ⟨t, hexec⟩ := execAlwaysCompletes j (s.withRequests (before ++ rest)) hpresent
    obtain ⟨hrequests, hpresence⟩ := exec_keeps_requests_and_presence hexec
    have hstep : step s = .next t := (step_of_decode hs hd).trans hexec
    obtain ⟨u, hu, hupresence, hrun⟩ := ih hrequests fun r hr => by
      obtain ⟨j, hd, hpresent⟩ := hlater r hr
      exact ⟨j, hd, (unitPresent_congr hpresence).mpr hpresent⟩
    refine ⟨u, hu, hupresence.trans hpresence, fun k => ?_⟩
    rw [← hrun, List.length_cons, ← Nat.add_assoc]
    exact run_succ_of_step _ hstep

/-- A run through the operations before one of a unit that the block has ends with that one. -/
theorem run_through_requests_then {before rest : List Request} {i : Instr} {s : State}
    (hs : s.requests = before ++ encode i :: rest) (hwf : i.wellFormed = true) (hpresent : UnitPresent i s)
    (hbefore : ∀ r ∈ before, ∃ j, decode r = .ok j ∧ UnitPresent j s) :
    ∃ u t, exec i u = .next t ∧ t.requests = rest ∧
      Host.Core.run Sys2Proof.core (before.length + 1) s = .next t := by
  obtain ⟨u, hu, hpresence, hrun⟩ := run_through_requests hs hbefore
  obtain ⟨t, hexec⟩ := execAlwaysCompletes i (u.withRequests rest) ((unitPresent_congr hpresence).mpr hpresent)
  obtain ⟨hrequests, -⟩ := exec_keeps_requests_and_presence hexec
  refine ⟨u.withRequests rest, t, hexec, hrequests, ?_⟩
  rw [Nat.add_comm, hrun]
  exact run_succ_of_step 0 ((step_of_decode hu (decodeOfEncode i hwf)).trans hexec)

/-- Settles O39: the last operation completes like the ones before it, and drives the function of its operand whatever
state they left. -/
theorem resultsIgnoreHistory : Obligations.ResultsIgnoreHistory := by
  intro before i s hwf hpresent hbefore
  obtain ⟨u, t, hexec, hrequests, hrun⟩ :=
    run_through_requests_then (s := { s with requests := before ++ [encode i] }) rfl hwf hpresent hbefore
  refine ⟨t, hrun, hrequests, ?_, ?_, ?_⟩
  · rintro c rfl
    rw [exec_encode] at hexec
    cases hexec
    exact ⟨rfl, rfl⟩
  · rintro j rfl
    rw [exec_pwlookup] at hexec
    cases hexec
    exact ⟨rfl, rfl⟩
  · rintro p rfl
    rw [eq_driveScaler_of_exec_duty hexec]
    rfl

/-- Settles O40: the operations of the first `n` characters are run through, then the one of character `n`. -/
theorem textCellsArePointwise : Obligations.TextCellsArePointwise := by
  intro r s n hn
  have hsplit : r.requests =
      (r.text.take n).map (fun c => encode (.encode c)) ++ encode (.encode r.text[n]) :: r.requests.drop (n + 1) := by
    conv_lhs =>
      rw [CommandRecord.requests, ← List.take_append_drop n r.text, List.drop_eq_getElem_cons hn, List.map_append,
        List.map_cons]
    rw [CommandRecord.requests, ← List.map_drop]
  have hbefore : ∀ q ∈ (r.text.take n).map (fun c => encode (.encode c)),
      ∃ j, decode q = .ok j ∧ UnitPresent j { s with requests := r.requests } := by
    intro q hq
    obtain ⟨c, -, rfl⟩ := List.mem_map.mp hq
    exact ⟨.encode c, rfl, nofun⟩
  obtain ⟨u, t, hexec, hrequests, hrun⟩ :=
    run_through_requests_then (s := { s with requests := r.requests }) hsplit rfl nofun hbefore
  rw [List.length_map, List.length_take_of_le hn.le] at hrun
  rw [exec_encode] at hexec
  cases hexec
  refine ⟨_, hrun, ?_, List.getElem?_eq_getElem hn, hrequests⟩
  rw [textCells, List.getElem?_map, List.getElem?_eq_getElem hn]
  rfl

end Sys2Proof.Machine

/-! PROOFS. The fields of the operand words, the range of DUTY's result and the caller's pipeline (20_memory.md R33;
30_encoding.md R27, R38, R40, R41; 41_actuation_mapper.md R63, R69; 42_pipeline_composition.md R74, R75). -/

namespace Sys2Proof.Machine

/-! The classes of the character codes. -/

/-- Settles O7: by counting over the 256 codes. -/
theorem characterMapPartition : Obligations.CharacterMapPartition := by
  unfold Obligations.CharacterMapPartition
  intro codes letter digit sym
  have hone : codes.all (fun c => ([letter c, digit c, sym c, isFallbackCode c].filter id).length == 1) = true := by
    decide +kernel
  refine ⟨?letters, ?digits, ?symbols, ?fallbacks, fun c hc => eq_of_beq (List.all_eq_true.mp hone c hc)⟩
  all_goals decide +kernel

/-! The fields of operand words as numbers. -/

theorem toNat_idxOver (i : IdxWord) : (idxOver i).toNat = i.toNat / 8 := by
  have hi := i.isLt
  rw [idxOver, BitVec.extractLsb'_toNat, Nat.shiftRight_eq_div_pow]
  omega

theorem toNat_idxSub (i : IdxWord) : (idxSub i).toNat = i.toNat % 8 := by
  rw [idxSub, BitVec.extractLsb'_toNat, Nat.shiftRight_zero]

theorem toNat_dutyExcess (d : DutyWord) : (dutyExcess d).toNat = d.toNat / 65536 := by
  have hd := d.isLt
  rw [dutyExcess, BitVec.extractLsb'_toNat, Nat.shiftRight_eq_div_pow]
  omega

theorem toNat_cellHi (v : CellCode) : (cellHi v).toNat = v.toNat / 8 := by
  have hv := v.isLt
  rw [cellHi, BitVec.extractLsb'_toNat, Nat.shiftRight_eq_div_pow]
  omega

theorem toNat_cellLo (v : CellCode) : (cellLo v).toNat = v.toNat % 8 := by
  rw [cellLo, BitVec.extractLsb'_toNat, Nat.shiftRight_zero]

theorem getLsbD_cellHi (v : CellCode) {j : Nat} (h : j < 3) : (cellHi v).getLsbD j = v.getLsbD (j + 3) := by
  rw [cellHi, BitVec.getLsbD_extractLsb', decide_eq_true h, Bool.true_and, Nat.add_comm]

theorem getLsbD_cellLo (v : CellCode) {j : Nat} (h : j < 3) : (cellLo v).getLsbD j = v.getLsbD j := by
  rw [cellLo, BitVec.getLsbD_extractLsb', decide_eq_true h, Bool.true_and, Nat.zero_add]

theorem toNat_halfIndex (h : SubPattern) : (halfIndex h).toNat = h.toNat :=
  BitVec.toNat_setWidth_of_le (by decide)

/-- An index operand is in range exactly when its field `over` is zero (R38). -/
theorem le_seven_iff_idxOver_eq_zero (i : IdxWord) : i.toNat ≤ 7 ↔ idxOver i = 0 := by
  rw [← BitVec.toNat_inj, toNat_idxOver, BitVec.ofNat_eq_ofNat, BitVec.toNat_ofNat, Nat.zero_mod]
  omega

/-- Settles O10: 0x61 is 1 modulo 32, 0x30 is 0 modulo 16, and an index in range is its field `sub`. -/
theorem indicesComeFromOperandBits : Obligations.IndicesComeFromOperandBits := by
  refine ⟨fun c k hk => ?_, fun c k hk => ?_, fun i => ⟨le_seven_iff_idxOver_eq_zero i, fun hover => ?_⟩⟩
  · rw [BitVec.extractLsb'_toNat, letterIndex_eq_some.mp hk, Nat.shiftRight_zero]
    omega
  · rw [BitVec.extractLsb'_toNat, digitIndex_eq_some.mp hk, Nat.shiftRight_zero]
    omega
  · have hle := (le_seven_iff_idxOver_eq_zero i).mpr hover
    have hindex : pulseIndex i = some ⟨i.toNat, by omega⟩ := pulseIndex_eq_some.mpr rfl
    rw [hindex, Option.map_some, toNat_idxSub, Nat.mod_eq_of_lt (by omega)]

/-! SPLIT. -/

/-- Settles O23: the halves are the quotient and the remainder by 8, and bits 5:3 and 2:0. -/
theorem splitGivesTheTwoHalves : Obligations.SplitGivesTheTwoHalves := by
  intro v s
  refine ⟨cellHi v, cellLo v, exec_split v s, ?_, fun j hj => ⟨getLsbD_cellHi v hj, getLsbD_cellLo v hj⟩,
    toNat_halfIndex _, toNat_halfIndex _, Nat.le_of_lt_succ (cellHi v).isLt, Nat.le_of_lt_succ (cellLo v).isLt⟩
  rw [toNat_cellHi, toNat_cellLo, Nat.div_add_mod]

/-- Settles O24: dot position `i` is bit `5 - i` of the cell code, so bit `2 - i` of the upper half, and three positions
on of the lower half. -/
theorem halvesAreDotColumns : Obligations.HalvesAreDotColumns := by
  intro v i
  rw [getLsbD_cellHi v (by omega), getLsbD_cellLo v (by omega), dotRaised, dotRaised]
  exact ⟨congrArg v.getLsbD (by dsimp only; omega), congrArg v.getLsbD (by dsimp only; omega)⟩

/-! The range of DUTY's result. -/

/-- After DUTY of `p`, the word on duty_out is nominal exactly when the quotient of `p` is. -/
theorem dutyNominal_driveScaler_iff (p : PulseWord) (s : State) :
    (s.driveScaler p (dutyValue Config.chip p)).DutyNominal ↔
      dutyQuotient Config.chip p.toNat ≤ Config.chip.maxDuty := by
  rw [State.DutyNominal, State.dutyOut_driveScaler]
  simp only [Option.some.injEq, forall_eq', dutyValue_chip_toNat]

/-- R69: the quotient passes full scale exactly with the period, since one more microsecond is 3 or 4 more. -/
theorem dutyQuotient_le_maxDuty_iff (p : PulseWord) :
    dutyQuotient Config.chip p.toNat ≤ Config.chip.maxDuty ↔ CallerKeepsPeriod p := by
  rw [CallerKeepsPeriod, dutyQuotient_chip, chip_maxDuty, chip_pwmPeriodUs]
  omega

/-- Settles O18: up to the period the duty is below 2^16, so its two upper bits are zero. -/
theorem dutyNominalExactlyUpToPeriod : Obligations.DutyNominalExactlyUpToPeriod := by
  intro p s hpresent
  obtain ⟨u, hu⟩ := Option.isSome_iff_exists.mp hpresent
  refine ⟨_, dutyValue Config.chip p, exec_duty_of_present hu, rfl,
    (dutyNominal_driveScaler_iff p s).trans (dutyQuotient_le_maxDuty_iff p), fun hperiod => ?_, ?_⟩
  · have hnominal := (dutyQuotient_le_maxDuty_iff p).mpr hperiod
    rw [chip_maxDuty] at hnominal
    apply BitVec.eq_of_toNat_eq
    rw [toNat_dutyExcess, dutyValue_chip_toNat]
    exact Nat.div_eq_of_lt (by omega)
  · rintro rfl
    rfl

/-- R63 (f), R100: every pulse width that PWLOOKUP gives is within the period. -/
theorem callerKeepsPeriod_pulseWidth (i : IdxWord) : CallerKeepsPeriod (pulseWidth Config.chip i) := by
  obtain ⟨-, hle⟩ := pulseWidth_chip_range i
  rw [CallerKeepsPeriod, chip_pwmPeriodUs]
  omega

/-- Settles O22: the pulse width is within the period, so its duty is nominal. -/
theorem lookupThenDutyStaysNominal : Obligations.LookupThenDutyStaysNominal := by
  intro i s hpresent
  obtain ⟨u, hu⟩ := Option.isSome_iff_exists.mp hpresent
  have hperiod := callerKeepsPeriod_pulseWidth i
  exact ⟨_, _, exec_pwlookup i s, hperiod, exec_duty_of_present hu,
    (dutyNominal_driveScaler_iff _ _).mpr ((dutyQuotient_le_maxDuty_iff _).mpr hperiod)⟩

/-! The pipeline of one character. -/

/-- The last part without the DUTY unit: the pulse widths are the end of it (R64). -/
theorem scalePulses_of_absent {hi lo : PulseWord} {s : State} (h : s.scaler = none) :
    scalePulses hi lo s = .next (s, .pulses hi lo) := by
  simp only [scalePulses, State.dutyOut, h, Option.map_none]

/-- The last part with the DUTY unit: the duty of each pulse width, one after the other. -/
theorem scalePulses_of_present {hi lo : PulseWord} {s : State} {u : ScalerPorts} (h : s.scaler = some u) :
    scalePulses hi lo s =
      .next ((s.driveScaler hi (dutyValue Config.chip hi)).driveScaler lo (dutyValue Config.chip lo),
        .duties (dutyValue Config.chip hi) (dutyValue Config.chip lo)) := by
  have hsecond : exec (.duty lo) (s.driveScaler hi (dutyValue Config.chip hi)) = _ :=
    exec_duty_of_present (State.driveScaler_scaler ..)
  simp only [scalePulses, State.dutyOut, h, Option.map_some, exec_duty_of_present h, andThen_next, hsecond]
  rfl

/-- The state in which the caller has both pulse widths of a character. -/
def State.afterLookups (s : State) (c : CharWord) : State :=
  let v := encodeCell Config.chip c
  (((s.driveChar c v).driveSplit v).driveIdx (halfIndex (cellHi v)) (renderPulses Config.chip c).1).driveIdx
    (halfIndex (cellLo v)) (renderPulses Config.chip c).2

/-- Up to the last part, the pipeline completes in every block, each operation fed from the result ports before it. -/
theorem renderByOperations_eq_scalePulses (c : CharWord) (s : State) :
    renderByOperations c s =
      scalePulses (renderPulses Config.chip c).1 (renderPulses Config.chip c).2 (s.afterLookups c) := rfl

/-- Settles O25: the pulse widths are those of R75, and the last part is read off the presence of the DUTY unit. -/
theorem pipelineByOperationsIsRenderChar : Obligations.PipelineByOperationsIsRenderChar := by
  intro c s
  rw [renderByOperations_eq_scalePulses]
  have hpulses : renderPulses s.config c = renderPulses Config.chip c := rfl
  have hscaler : (s.afterLookups c).scaler = s.scaler := rfl
  cases hs : s.scaler with
  | none =>
    have habsent : s.config.scalerPresent = false := congrArg Option.isSome hs
    rw [scalePulses_of_absent (hscaler.trans hs), renderChar_of_no_scaler habsent, hpulses]
    exact ⟨_, rfl, rfl, congrArg Option.isSome hs⟩
  | some u =>
    have hpresent : s.config.scalerPresent = true := congrArg Option.isSome hs
    rw [scalePulses_of_present (hscaler.trans hs), renderChar_of_scaler hpresent, hpulses]
    exact ⟨_, rfl, rfl, rfl⟩

end Sys2Proof.Machine
